-- ==== Sys2Proof/Word.lean ====
section
/-! DEFINITION. The word types: what the spec treats as bits (bytes of the site line and of the configuration
record, words of the scan link). Every other quantity is an integer, as 00_scope.md "Arithmetic" says. -/

namespace Sys2Proof

/-- One byte of the site line or of the configuration record (R74, R191). -/
abbrev Byte := BitVec 8

/-- One word of the scan link in the order it is clocked in: 16 data bits, most significant first, then the
parity bit, which is bit 0 (section 1.2, R201 "Scan words"). -/
abbrev ScanWord := BitVec 17

end Sys2Proof
end

