-- ==== Sys2Proof/Syntax.lean ====
section
/-! DEFINITION. The commands of the block: one constructor per row of spec/opcode_table.json.
The table gives its rows no operands; the operands below are what the rule of each row needs (log entries 1 and 5).
`after` is the time, in microseconds of the part's time base, that passes between the command before and this one;
a command that is the expiry of one of the part's own timers has none, because the timer says when it comes. -/

namespace Sys2Proof

/-- The two resources a claim may be for (R113). -/
inductive Resource where
  | eq
  | water
deriving DecidableEq, Repr

/-- The conditioned level inputs (section 10.2); `prb g` is PRB(g+1). -/
inductive LevelInput where
  | fb
  | crdy
  | prb (g : Fin 8)
deriving DecidableEq, Repr

/-- What FRAME_ABANDONED carries: the time before it, and the length byte that abandons the frame (R76). -/
structure AbandonedFrame where
  after : Nat
  length : Byte
deriving DecidableEq, Repr

/-- The steps of the part (spec/opcode_table.json). -/
inductive Instr where
  /-- RESET (R190) -/
  | reset
  /-- STRAPS_SETTLED (R184): the settled levels, strap 5 the most significant -/
  | strapsSettled (after : Nat) (straps : BitVec 5)
  /-- CONFIGURATION_READ (R191): the bytes clocked in -/
  | configurationRead (record : List Byte)
  /-- SELF_TEST (R194): the bytes the assembler completed, or none after a framing error or a break -/
  | selfTest (looped : Option (List Byte))
  /-- SCAN_START (R2): the one-second expiry -/
  | scanStart
  /-- SAMPLE_SET (R14): the words clocked in, word 0 first -/
  | sampleSet (words : List ScanWord)
  /-- HOUR_EXPIRY (R30) -/
  | hourExpiry
  /-- LINE_IDLE (R75) -/
  | lineIdle (after : Nat)
  /-- BREAK (R75) -/
  | lineBreak (after : Nat)
  /-- DOMINANT_COUNT (R88): one full 20 bit times of unbroken dominant line -/
  | dominantCount (after : Nat)
  /-- ATTEMPT_START (R83) -/
  | attemptStart (after : Nat)
  /-- ARBITRATION_LOST (R85) -/
  | arbitrationLost (after : Nat)
  /-- BIT_ERROR (R86) -/
  | bitError (after : Nat)
  /-- ATTEMPT_COMPLETE (R87): comes when the frame's last stop bit has gone out -/
  | attemptComplete
  /-- RECOVERY_ATTEMPT (R91): the expiry of the isolation timer -/
  | recoveryAttempt
  /-- STATUS_NOTICE (R101): the frame whose last stop bit has been heard -/
  | statusNotice (after : Nat) (frame : List Byte)
  /-- CLAIM_NOTICE (R102) -/
  | claimNotice (after : Nat) (frame : List Byte)
  /-- RELEASE_NOTICE (R103) -/
  | releaseNotice (after : Nat) (frame : List Byte)
  /-- REPORT_NOTICE (R104) -/
  | reportNotice (after : Nat) (frame : List Byte)
  /-- HOLD (R198) -/
  | hold (after : Nat) (frame : List Byte)
  /-- STOP (R135) -/
  | stop (after : Nat) (frame : List Byte)
  /-- FORCE_EQ (R61) -/
  | forceEq (after : Nat) (frame : List Byte)
  /-- FORCE_WATER (R61) -/
  | forceWater (after : Nat) (frame : List Byte)
  /-- CLEAR (R199) -/
  | clear (after : Nat) (frame : List Byte)
  /-- QUERY (R200) -/
  | query (after : Nat) (frame : List Byte)
  /-- STATUS_PERIOD_EXPIRY (R117) -/
  | statusPeriodExpiry
  /-- JOINING_TIMER_EXPIRY (R195) -/
  | joiningTimerExpiry
  /-- HOLD_TIMER_EXPIRY (R198) -/
  | holdTimerExpiry
  /-- CONTENTION_WINDOW_EXPIRY (R123) -/
  | contentionWindowExpiry (r : Resource)
  /-- BACK_OFF_EXPIRY (R130) -/
  | backOffExpiry (r : Resource)
  /-- CHARGER_WAIT_EXPIRY (R148) -/
  | chargerWaitExpiry
  /-- TRANSFER_WINDOW_EXPIRY (R144) -/
  | transferWindowExpiry
  /-- RECOVERY_CHECK_EXPIRY (R145) -/
  | recoveryCheckExpiry
  /-- CURRENT_WAIT_EXPIRY (R156) -/
  | currentWaitExpiry
  /-- REST_PERIOD_EXPIRY (R159) -/
  | restPeriodExpiry
  /-- RAW_LEVEL_CHANGE (R181): the pin's level, high or low, after the change -/
  | rawLevelChange (after : Nat) (input : LevelInput) (high : Bool)
  /-- STABILITY_TIMER_EXPIRY (R181) -/
  | stabilityTimerExpiry (input : LevelInput)
  /-- FLOW_EDGE (R183): the FLOW pin's level, high or low, after the edge -/
  | flowEdge (after : Nat) (high : Bool)
  /-- FLOW_TIMER_EXPIRY (R183) -/
  | flowTimerExpiry
  /-- EARLY_FLOW_LIMIT_EXPIRY (R171) -/
  | earlyFlowLimitExpiry
  /-- FLOW_WINDOW_EXPIRY (R171) -/
  | flowWindowExpiry
  /-- OPEN_PERIOD_EXPIRY (R169) -/
  | openPeriodExpiry
  /-- DRAIN_GRACE_EXPIRY (R170) -/
  | drainGraceExpiry
  /-- OFF_TIME_EXPIRY (R169) -/
  | offTimeExpiry
  /-- ROUND_LIMIT_EXPIRY (R175) -/
  | roundLimitExpiry
  /-- DRY_LATCH_EXPIRY (R178) -/
  | dryLatchExpiry
  /-- PWM_PERIOD_START (R186) -/
  | pwmPeriodStart
  /-- FRAMING_ERROR (R76) -/
  | framingError (after : Nat)
  /-- FRAME_ABANDONED (R76) -/
  | frameAbandoned (heard : AbandonedFrame)
  /-- FRAME_DISCARDED (R77) -/
  | frameDiscarded (after : Nat)
deriving DecidableEq, Repr

end Sys2Proof
end

