-- ==== Sys2Proof/Decode.lean ====
section
/-! DEFINITION. The decoder of table words: spec/opcode_table.json gives none of its fifty rows any bits
(every row's "fields" is empty), so no word spells a command (log entry 21). -/

/-- The command a word of `nbits` bits spells by the table's bits: none, for the table has no row with bits. -/
def Sys2Proof.decodeTableWord (_nbits _w : Nat) : Option Sys2Proof.Instr :=
  none
end

