-- ==== Sys2Proof/Config.lean ====
section
/-! DEFINITION. What the configuration record fixes for the part: the configuration in force (R191, R201); and what
the outside puts on the scan link and the site line where no command says it: free values (log entry 27). -/

namespace Sys2Proof

/-- Which crossings of a monitor raise an event (R40, R48). -/
inductive EventSelection where
  | entry
  | ret
  | both
deriving DecidableEq, Repr

/-- The configuration in force: every field of the record of R201, in the unit the record gives it. -/
structure Configuration where
  /-- strings at the site, R192 -/
  nSite : Nat
  /-- strings that must remain on float, R119 -/
  rMin : Nat
  /-- charger capacity, 0.1 A, R119 -/
  eBus : Nat
  /-- rated capacity C, Ah, R17 -/
  capacity : Nat
  /-- charge efficiency, percent, R17 -/
  eta : Nat
  /-- share divisor q, R119 -/
  shareDivisor : Nat
  /-- equalise interval, days, R56 -/
  intervalDays : Nat
  /-- turnover limit K, R56 -/
  turnoverLimit : Nat
  /-- spread limit S_ok, mV, R40 -/
  sOk : Nat
  /-- spread ceiling S_bad, mV, R56 -/
  sBad : Nat
  /-- deviation limit Dv, mV, R40 -/
  dv : Nat
  /-- high limit Vhi, mV, R40 -/
  vhi : Nat
  /-- low limit Vlo, mV, R40 -/
  vlo : Nat
  devSelection : EventSelection
  highSelection : EventSelection
  lowSelection : EventSelection
  /-- ALM active high, R188 -/
  almActiveHigh : Bool
  /-- charger always-on, R187 -/
  alwaysOn : Bool
  /-- equalise hold time, minutes, R153 -/
  holdMinutes : Nat
  /-- equalise minimum time, hours, R153 -/
  minHours : Nat
  /-- rest time, hours, R63, R159 -/
  restHours : Nat
  /-- equalise maximum time, hours, R153 -/
  maxHours : Nat
  /-- watering threshold Wth, µL, R66 -/
  wth : Nat
  /-- group count G, R163 -/
  groupCount : Nat
  /-- cells of groups 1 to G, R163 -/
  cells : List Nat
  /-- valve open time, s, R163 -/
  onSeconds : Nat
  /-- valve closed time, s, R163 -/
  offSeconds : Nat
  /-- flow volume, mL per pulse, R163 -/
  vFlow : Nat
  /-- Status period P, s, R119 -/
  period : Nat
  /-- contention window W, s, R119 -/
  window : Nat
  /-- blocs in use B, R8 -/
  blocCount : Nat
  /-- probe enables, bit g is PRB(g+1), R180 -/
  probeEnable : BitVec 8
  /-- probe inverts, bit g is PRB(g+1), R180 -/
  probeInvert : BitVec 8
  fbEnable : Bool
  crdyEnable : Bool
  flowEnable : Bool
  fbInvert : Bool
  crdyInvert : Bool
  flowInvert : Bool
deriving DecidableEq, Repr

/-- Free value: the word the front end sends in place `place` of the scan that completes at the time `ends`, after
`resets` resets (R2, log entry 27). -/
opaque Config.linkWord (resets ends place : Nat) : ScanWord

/-- Free value: the whole bit times for which the site line has been recessive at the time `now`, after `resets` resets
(R75, log entry 27). -/
opaque Config.lineRun (resets now : Nat) : Nat

end Sys2Proof
end

