-- ==== Sys2Proof/Machine/Defaults.lean ====
section
/-! DEFINITION. The built-in defaults of R193: what is in force when the configuration record fails its check. -/

namespace Sys2Proof.Machine

/-- The built-in defaults (R193, and the defaults stated with the fields in R17, R40, R56, R63, R66, R119, R153,
R163, R180). -/
def builtInDefaults : Configuration where
  nSite := 24
  rMin := 1
  eBus := 10
  capacity := 100
  eta := 96
  shareDivisor := 20
  intervalDays := 90
  turnoverLimit := 4
  sOk := 30
  sBad := 90
  dv := 50
  vhi := 2450
  vlo := 1800
  devSelection := .both
  highSelection := .both
  lowSelection := .both
  almActiveHigh := false
  alwaysOn := false
  holdMinutes := 60
  minHours := 2
  restHours := 2
  maxHours := 12
  wth := 60000
  groupCount := 8
  cells := [3, 3, 3, 3, 3, 3, 3, 3]
  onSeconds := 5
  offSeconds := 10
  vFlow := 10
  period := 10
  window := 4
  blocCount := 24
  probeEnable := 0xFF#8
  probeInvert := 0x00#8
  fbEnable := true
  crdyEnable := true
  flowEnable := true
  fbInvert := false
  crdyInvert := false
  flowInvert := false

end Sys2Proof.Machine
end

