-- ==== Sys2Proof/Machine/Timing.lean ====
section
/-! DEFINITION. The times of the spec in microseconds of the part's time base. -/

namespace Sys2Proof.Machine

/-- Whole seconds in microseconds. -/
def secondsUs (n : Nat) : Nat := n * 1000000

/-- Bit times of the 19,200 bit/s site line in microseconds, rounded up (R73). -/
def bitsUs (n : Nat) : Nat := (n * 1000000 + 19199) / 19200

/-- One hour (R30). -/
def hourUs : Nat := secondsUs 3600

/-- The bit time of the scan link, 4 µs (R1). -/
def linkBitUs : Nat := 4

/-- One word of the scan link, 17 bit times (R2). -/
def scanWordUs : Nat := 17 * linkBitUs

/-- A scan lasts 30 words, 2.04 ms (R2). -/
def scanUs : Nat := 30 * scanWordUs

/-- The configuration read lasts the 3 bytes of its request and the 48 of the record, 1.632 ms (R191). -/
def configurationReadUs : Nat := (3 + 48) * 8 * linkBitUs

/-- The address straps have settled when they have stood unchanged for 20 ms (R184). -/
def strapSettleUs : Nat := 20000

/-- The idle timer is full after 12 bit times of recessive line (R75). -/
def idleUs : Nat := bitsUs 12

/-- The self-test lasts 92 bit times (R194). -/
def selfTestUs : Nat := bitsUs 92

/-- The stability time of a level input, 20 ms (R181). -/
def stabilityUs : Nat := 20000

/-- The FLOW timer, 2 ms (R183). -/
def flowTimerUs : Nat := 2000

/-- An edge before 15 ms is early (R144). -/
def earlyEdgeUs : Nat := 15000

/-- Transfer windows and recovery checks last 250 ms (R144, R145). -/
def transferUs : Nat := 250000

/-- The current wait, 5 s (R156). -/
def currentWaitUs : Nat := secondsUs 5

/-- The charger wait, 120 s (R147). -/
def chargerWaitUs : Nat := secondsUs 120

/-- The isolation timer, 60 s (R89). -/
def isolationUs : Nat := secondsUs 60

/-- The watering round limit, 7200 s (R166). -/
def roundLimitUs : Nat := secondsUs 7200

/-- The flow window, 4 s (R169). -/
def flowWindowUs : Nat := secondsUs 4

/-- The early-flow limit, 200 ms (R169). -/
def earlyFlowUs : Nat := 200000

/-- The drain grace, 3 s (R169). -/
def drainGraceUs : Nat := secondsUs 3

/-- The dry latch timer, 24 h (R178). -/
def dryLatchUs : Nat := secondsUs 86400

/-- The PWM period, 1024 counts of 1 µs (R186). -/
def pwmPeriodUs : Nat := 1024

end Sys2Proof.Machine
end

