-- ==== Sys2Proof/Machine/State.lean ====
section
/-! DEFINITION. The state of the part, one structure per block of 00_scope.md "Block overview", and its reset state.
Timers: `some d` is a running timer that expires at time `d` of the time base, `none` a timer that does not run
(log entry 1). -/

namespace Sys2Proof.Machine

/-- No command of the part ends in a fault: the spec names no machine stop. The type is closed and empty. -/
inductive Fault where
deriving DecidableEq, Repr

/-- The reasons for refusing a command. -/
inductive Refusal where
  /-- raised by exec's arm of a command that has no meaning yet; safe: nothing is claimed of such a command -/
  | notModelled (mnemonic : String)
deriving DecidableEq, Repr

/-! ### CFG -/

/-- Node modes (section 11.1). -/
inductive NodeMode where
  | starting
  | joining
  | run
  | monitorOnly
  | isolated
  | silent
deriving DecidableEq, Repr

/-- The loopback self-test (R194). -/
inductive SelfTest where
  | notBegun
  | running (ends : Nat)
  | passed
  | failed
deriving DecidableEq, Repr

/-- Start-up and Configuration (chapter 11). -/
structure Cfg where
  mode : NodeMode
  /-- the station address, none until the straps have settled (R190) -/
  address : Option (BitVec 5)
  /-- the configuration read has ended: the second select is released and conditioning has begun (R191) -/
  readEnded : Bool
  /-- the configuration in force (R191; before the read ends: log entry 9) -/
  config : Configuration
  failed : Bool
  clamped : Bool
  selfTest : SelfTest
  hold : Bool
  holdTimer : Option Nat
  joiningTimer : Option Nat
deriving DecidableEq, Repr

/-! ### SCN -/

/-- Freshness of a channel (section 1.5). -/
inductive Freshness where
  | fresh
  | held
  | stale
deriving DecidableEq, Repr

/-- One measurement channel (R10 to R13). -/
structure Channel where
  value : Int
  freshness : Freshness
  invalidRun : Nat
  recoveryRun : Nat
  clamped : Bool
deriving DecidableEq, Repr

/-- A channel after reset (R16). -/
def resetChannel : Channel :=
  { value := 0, freshness := .stale, invalidRun := 5, recoveryRun := 0, clamped := false }

/-- The Scan Controller (chapter 1). -/
structure Scn where
  /-- the scan in progress, with the time at which it completes (R2) -/
  scanEnds : Option Nat
  /-- the 30 word places, in link order: the words of the last scan, or of the scan in progress as far as they have
  arrived (R2) -/
  buffer : List ScanWord
  /-- the expected scan sequence, none while not known (R5) -/
  expected : Option (BitVec 4)
  /-- blocs 1 to B, in order -/
  blocs : List Channel
  current : Channel
  voltage : Channel
  pilot : Channel
  ambient : Channel
  staleCount : Nat
deriving DecidableEq, Repr

/-! ### ACC -/

/-- The Charge Account (section 2.1). -/
structure Acc where
  /-- charge content Q, fine units -/
  charge : Nat
  /-- G_since_water, fine units -/
  gassing : Nat
  /-- D_since_eq, fine units -/
  discharged : Nat
  hours : Nat
  fullTimer : Nat
  dischargeRun : Nat
  recoveryRun : Nat
  discharging : Bool
  uncertain : Bool
  restarted : Bool
  forceEq : Bool
  forceWater : Bool
  tt : Nat
  tq : Nat
  ts : Nat
  /-- water deficit, µL -/
  deficit : Nat
  urgency : Nat
deriving DecidableEq, Repr

/-! ### MON -/

/-- The three monitors of one bloc; true is OUTSIDE, false is INSIDE (section 3.3). -/
structure BlocMonitor where
  devOutside : Bool
  highOutside : Bool
  lowOutside : Bool
deriving DecidableEq, Repr

/-- The monitors of a bloc after reset: INSIDE (R55). -/
def resetMonitor : BlocMonitor :=
  { devOutside := false, highOutside := false, lowOutside := false }

/-- The Bloc Monitor (chapter 3). -/
structure Mon where
  /-- the monitors of blocs 1 to B, in order -/
  monitors : List BlocMonitor
  /-- mean, none when invalid (R42) -/
  mean : Option Nat
  /-- spread, none when invalid (R42) -/
  spread : Option Nat
  devAlert : Bool
  lowAlert : Bool
  foldBack : Bool
  spreadSum : Nat
  spreadCount : Nat
  sFloat : Nat
  sFloatValid : Bool
  band : Bool
deriving DecidableEq, Repr

/-! ### LIN -/

/-- States of the receive assembler (R76). -/
inductive Assembler where
  | hunt
  | ready
  | frame
deriving DecidableEq, Repr

/-- The transmit engine's states (R82). -/
inductive Engine where
  | quiet
  | waiting
  | sending
deriving DecidableEq, Repr

/-- Which notice an attempt carries; two attempts carry the same notice when these are equal (R88). -/
inductive NoticeKey where
  | release (r : Resource) (tag : Nat)
  | claim (r : Resource) (tag : Nat)
  | report
  | status
  /-- LIN's own recovery Status, outside the queue (R91) -/
  | recovery
deriving DecidableEq, Repr

/-- The idle timer, as the commands tell of it (R75). It reaches 12 with the command LINE_IDLE, as the part's other timers
expire (log entry 7). -/
inductive IdleTimer where
  /-- at 0 at the time `since`: the last dominant level, frame end or attempt end told of -/
  | counting (since : Nat)
  /-- at 0 at the time `since`, and the line heard recessive from then to the time `heard`: the end of a frame that the
  assembler did not assemble -/
  | tail (since heard : Nat)
  /-- at 12 at the time `reached`: the line is idle -/
  | full (reached : Nat)
deriving DecidableEq, Repr

/-- The attempt in progress (section 5.4). -/
structure Attempt where
  notice : NoticeKey
  frame : List Byte
  start : Nat
deriving DecidableEq, Repr

/-- The Line Interface (chapter 5). -/
structure Lin where
  attempt : Option Attempt
  /-- the notice the previous attempt carried, none when that attempt completed: its notice is sent, and a later one is
  another (R87, R88) -/
  lastNotice : Option NoticeKey
  retry : Nat
  assembler : Assembler
  /-- the idle timer between own attempts; `State.idleTimer` is its value (R75) -/
  idle : IdleTimer
  isolationTimer : Option Nat
  /-- the recovery attempt of R91 is in course -/
  recovering : Bool
deriving DecidableEq, Repr

/-! ### PTB -/

/-- A peer's reported mode (R96). -/
inductive PeerMode where
  | unreported
  | joining
  | run
  | monitorOnly
deriving DecidableEq, Repr

/-- The phase of a claim on the line (R96). -/
inductive ClaimPhase where
  | contending
  | held
deriving DecidableEq, Repr

/-- A peer's EQ claim (R96). -/
structure EqClaim where
  tag : Nat
  share : Nat
  snapshot : Nat
  phase : ClaimPhase
deriving DecidableEq, Repr

/-- A peer's WATER claim (R96). -/
structure WaterClaim where
  tag : Nat
  snapshot : Nat
  phase : ClaimPhase
deriving DecidableEq, Repr

/-- A peer record (R96). Its freshness is read from the age (R106). -/
structure PeerRecord where
  address : Nat
  mode : PeerMode
  available : Bool
  discharging : Bool
  eqClaim : Option EqClaim
  waterClaim : Option WaterClaim
  age : Nat
deriving DecidableEq, Repr

/-! ### CLM -/

/-- States of a claim machine (R113). -/
inductive ClaimState where
  | none
  | queued
  | contending
  | held
  | releasing
deriving DecidableEq, Repr

/-- Release reasons (R81). -/
inductive ReleaseReason where
  | done
  | withdrawn
  | yielded
  | aborted
deriving DecidableEq, Repr

/-- A claim machine (R113). Tag, snapshot, share and reason mean something only outside NONE (log entry 14). -/
structure ClaimMachine where
  state : ClaimState
  tag : Nat
  snapshot : Nat
  share : Nat
  reason : ReleaseReason
  windowTimer : Option Nat
  yielding : Bool
deriving DecidableEq, Repr

/-- A claim machine after reset (R139). -/
def resetMachine : ClaimMachine :=
  { state := .none, tag := 0, snapshot := 0, share := 0, reason := .done, windowTimer := none, yielding := false }

/-- The Claim Controller (chapter 7). The EQ and WATER slots of the outgoing queue are the machines' states (R115). -/
structure Clm where
  eq : ClaimMachine
  water : ClaimMachine
  eqBackOff : Option Nat
  waterBackOff : Option Nat
  reportQueued : Bool
  statusQueued : Bool
  nextTag : Nat
  statusTimer : Option Nat
  /-- current history, oldest first (R136) -/
  history : List Int
  lowRun : Nat
deriving DecidableEq, Repr

/-! ### RND -/

/-- The fourteen round states (R201). -/
inductive RoundState where
  | float
  | due
  | claiming
  | prepare
  | transferOut
  | equalising
  | soak
  | transferBack
  | rest
  | waterDue
  | waterClaiming
  | watering
  | inhibited
  | stuck
deriving DecidableEq, Repr

/-- Kinds of round (R141). -/
inductive RoundKind where
  | equalise
  | watering
deriving DecidableEq, Repr

/-- Outcomes of a round (R141, R165). -/
inductive RoundOutcome where
  | complete
  | timedOut
  | aborted
  | yielded
  | dry
  | conflict
deriving DecidableEq, Repr

/-- Causes of an ABORTED round (R141, R165). -/
inductive AbortCause where
  | charger
  | transfer
  | position
  | currentStale
  | temperature
  | stop
  | line
  | clash
deriving DecidableEq, Repr

/-- The current round record (R141, R165). -/
structure OpenRecord where
  kind : RoundKind
  outcome : Option RoundOutcome
  cause : Option AbortCause
  openedAt : Nat
deriving DecidableEq, Repr

/-- A last-round record (R141). -/
structure LastRecord where
  outcome : RoundOutcome
  cause : Option AbortCause
  minutes : Nat
deriving DecidableEq, Repr

/-- Relay positions (R143). -/
inductive RelayPosition where
  | float
  | equalise
deriving DecidableEq, Repr

/-- A running recovery check (R145); `latches` says that its success sets the inhibit latch too (R150). -/
structure RecoveryCheck where
  ends : Nat
  latches : Bool
deriving DecidableEq, Repr

/-- What TRANSFER_OUT defers (R149). -/
inductive DeferredCause where
  | stop
  | yield
  | chargerLost
deriving DecidableEq, Repr

/-- The Round Controller, the equalising side and what both kinds of round share (chapters 4 and 8). -/
structure Rnd where
  round : RoundState
  record : Option OpenRecord
  lastEq : Option LastRecord
  lastWater : Option LastRecord
  relay : RelayPosition
  duty : Nat
  demand : Bool
  applied : Nat
  pending : Nat
  pendingValid : Bool
  inhibit : Bool
  chargerWait : Option Nat
  /-- the running transfer window: the time of its command (R144) -/
  transferFrom : Option Nat
  recoveryCheck : Option RecoveryCheck
  currentWait : Option Nat
  restPeriod : Option Nat
  elapsed : Nat
  bandTimer : Nat
  deferred : Option DeferredCause
  /-- string temperature, none when unknown (R62) -/
  temperature : Option Int
  restTimer : Nat
deriving DecidableEq, Repr

/-- How a group's dose ended (R164). -/
inductive GroupOutcome where
  | none
  | full
  | alreadyFull
  | capped
  | dosed
  | notReached
deriving DecidableEq, Repr

/-- A group record (R164); whether it is enabled and its cells are read from the configuration in force. -/
structure GroupRecord where
  carried : Nat
  target : Nat
  cap : Nat
  dosed : Nat
  outcome : GroupOutcome
deriving DecidableEq, Repr

/-- A group record after reset (R179). -/
def resetGroup : GroupRecord :=
  { carried := 0, target := 0, cap := 0, dosed := 0, outcome := .none }

/-- The Round Controller, watering side (chapter 9). Groups are numbered from 0: group `g` is the spec's g + 1. -/
structure Wat where
  groups : List GroupRecord
  /-- the group list, head first (R167) -/
  plan : List (Fin 8)
  noFlow : Nat
  /-- the open valve (R168) -/
  valve : Option (Fin 8)
  openPeriod : Option Nat
  earlyLimit : Option Nat
  /-- the flow window, running until it is judged (R171) -/
  flowWindow : Option Nat
  offTime : Option Nat
  drainGrace : Option Nat
  closedPeriod : Bool
  /-- this pulse's valve was closed by R172 before any flow pulse (R171) -/
  closedEarly : Bool
  roundLimit : Option Nat
  unexplained : Bool
  dry : Bool
  dryTimer : Option Nat
deriving DecidableEq, Repr

/-! ### FLD -/

/-- One level input (R181): the pin's level, the debounced level and the stability timer. -/
structure LevelLine where
  /-- the level at the pin: true is high -/
  pinHigh : Bool
  /-- the debounced level: true is active -/
  active : Bool
  timer : Option Nat
deriving DecidableEq, Repr

/-- FLOW pulse states (R183). -/
inductive FlowState where
  | armed
  | qualifying
  | spent
  | rearming
deriving DecidableEq, Repr

/-- The Field Lines (chapter 10). -/
structure Fld where
  /-- the 20 ms in which the five straps have to stand unchanged together, until they have settled (R184) -/
  strapTimer : Option Nat
  fb : LevelLine
  crdy : LevelLine
  probes : List LevelLine
  flowPinHigh : Bool
  flow : FlowState
  flowTimer : Option Nat
  /-- start of the PWM period under way (R186) -/
  pwmStart : Nat
  /-- the duty the PWM period under way works with (R186) -/
  pwmDuty : Nat
deriving DecidableEq, Repr

/-! ### The part -/

/-- The whole part, with the queue of waiting commands (first in, first out). -/
structure State where
  now : Nat
  nextSecond : Nat
  nextHour : Nat
  /-- the MODEL's own: how many RESETs there have been, which tells the free values of one start from the next
  (log entry 27) -/
  resets : Nat
  cfg : Cfg
  scn : Scn
  acc : Acc
  mon : Mon
  lin : Lin
  ptb : List PeerRecord
  clm : Clm
  rnd : Rnd
  wat : Wat
  fld : Fld
  pending : List Instr
deriving DecidableEq, Repr

/-- A level input whose pin is low, before conditioning (R189; the pin's level: log entry 8). -/
def resetLine : LevelLine :=
  { pinHigh := false, active := false, timer := none }

/-- The part right after reset: R16, R39, R55, R72, R94, R112, R139, R162, R179, R189, R190. -/
def State.reset : State where
  now := 0
  nextSecond := secondsUs 1
  nextHour := hourUs
  resets := 0
  cfg :=
    { mode := .starting, address := none, readEnded := false, config := builtInDefaults, failed := false,
      clamped := false, selfTest := .notBegun, hold := false, holdTimer := none, joiningTimer := none }
  scn :=
    { scanEnds := none, buffer := List.replicate 30 0, expected := none,
      blocs := List.replicate builtInDefaults.blocCount resetChannel, current := resetChannel,
      voltage := resetChannel, pilot := resetChannel, ambient := resetChannel,
      staleCount := builtInDefaults.blocCount + 4 }
  acc :=
    { charge := builtInDefaults.capacity * 36000, gassing := 0, discharged := 0, hours := 0, fullTimer := 0,
      dischargeRun := 0, recoveryRun := 0, discharging := false, uncertain := false, restarted := true,
      forceEq := false, forceWater := false, tt := 0, tq := 0, ts := 0, deficit := 0, urgency := 0 }
  mon :=
    { monitors := List.replicate builtInDefaults.blocCount resetMonitor, mean := none, spread := none,
      devAlert := false, lowAlert := false, foldBack := false, spreadSum := 0, spreadCount := 0, sFloat := 0,
      sFloatValid := false, band := false }
  lin :=
    { attempt := none, lastNotice := none, retry := 0, assembler := .hunt, idle := .counting 0, isolationTimer := none,
      recovering := false }
  ptb := []
  clm :=
    { eq := resetMachine, water := resetMachine, eqBackOff := none, waterBackOff := none, reportQueued := false,
      statusQueued := false, nextTag := 1, statusTimer := none, history := [], lowRun := 0 }
  rnd :=
    { round := .float, record := none, lastEq := none, lastWater := none, relay := .float, duty := 0,
      demand := false, applied := 0, pending := 0, pendingValid := false, inhibit := false, chargerWait := none,
      transferFrom := none, recoveryCheck := none, currentWait := none, restPeriod := none, elapsed := 0,
      bandTimer := 0, deferred := none, temperature := none, restTimer := 0 }
  wat :=
    { groups := List.replicate 8 resetGroup, plan := [], noFlow := 0, valve := none, openPeriod := none,
      earlyLimit := none, flowWindow := none, offTime := none, drainGrace := none, closedPeriod := false,
      closedEarly := false, roundLimit := none, unexplained := false, dry := false, dryTimer := none }
  fld :=
    { strapTimer := some strapSettleUs, fb := resetLine, crdy := resetLine, probes := List.replicate 8 resetLine, flowPinHigh := false,
      flow := .spent, flowTimer := none, pwmStart := 0, pwmDuty := 0 }
  pending := []

end Sys2Proof.Machine
end

