-- ==== Sys2Proof/Machine/Formats.lean ====
section
/-! DEFINITION. The formats of R201 as the part writes them: the CRC, the codes, the notices and their frames. -/

namespace Sys2Proof.Machine

/-! ### Bytes and the CRC -/

/-- A byte from a number, modulo 256. -/
def byteOf (n : Nat) : Byte := BitVec.ofNat 8 n

/-- A two-byte field, high byte first (R201). -/
def be16 (n : Nat) : List Byte := [byteOf (n / 256), byteOf n]

/-- A three-byte field, high byte first (R201). -/
def be24 (n : Nat) : List Byte := [byteOf (n / 65536), byteOf (n / 256), byteOf n]

/-- The value of a two-byte field, high byte first. -/
def word16 (hi lo : Byte) : Nat := hi.toNat * 256 + lo.toNat

/-- One shift of the CRC register with generator x¹⁶ + x¹⁵ + x² + 1 (R77). -/
def crcShift (c : BitVec 16) : BitVec 16 :=
  if c.msb then (c <<< 1) ^^^ 0x8005#16 else c <<< 1

/-- `n` shifts of the CRC register. -/
def crcShifts : Nat → BitVec 16 → BitVec 16
  | 0, c => c
  | n + 1, c => crcShifts n (crcShift c)

/-- One byte through the CRC, most significant bit first (R77). -/
def crcByte (c : BitVec 16) (b : Byte) : BitVec 16 :=
  crcShifts 8 (c ^^^ ((b.zeroExtend 16) <<< 8))

/-- The CRC-16 of a run of bytes in line order, from initial value 0 (R77). -/
def crc16 (bytes : List Byte) : BitVec 16 := bytes.foldl crcByte 0#16

/-- The two CRC bytes, high byte first (R77). -/
def crcBytes (bytes : List Byte) : List Byte := be16 (crc16 bytes).toNat

/-! ### Codes -/

/-- Round state codes (R201). -/
def roundCode : RoundState → Nat
  | .float => 0
  | .due => 1
  | .claiming => 2
  | .prepare => 3
  | .transferOut => 4
  | .equalising => 5
  | .soak => 6
  | .transferBack => 7
  | .rest => 8
  | .waterDue => 9
  | .waterClaiming => 10
  | .watering => 11
  | .inhibited => 12
  | .stuck => 13

/-- Resource codes (R201). -/
def resourceCode : Resource → Byte
  | .eq => 1#8
  | .water => 2#8

/-- The resource a code names (R97). -/
def resourceOf (b : Byte) : Option Resource :=
  if b = 1#8 then some .eq else if b = 2#8 then some .water else none

/-- Phase codes (R201). -/
def phaseCode : ClaimPhase → Byte
  | .contending => 1#8
  | .held => 2#8

/-- The phase a code names (R97). -/
def phaseOf (b : Byte) : Option ClaimPhase :=
  if b = 1#8 then some .contending else if b = 2#8 then some .held else none

/-- Release reason codes (R201). -/
def reasonCode : ReleaseReason → Byte
  | .done => 1#8
  | .withdrawn => 2#8
  | .yielded => 3#8
  | .aborted => 4#8

/-- The release reason a code names (R97). -/
def reasonOf (b : Byte) : Option ReleaseReason :=
  if b = 1#8 then some .done
  else if b = 2#8 then some .withdrawn
  else if b = 3#8 then some .yielded
  else if b = 4#8 then some .aborted
  else none

/-- The reported mode a Status code names (R97, R201). -/
def peerModeOf (b : Byte) : Option PeerMode :=
  if b = 1#8 then some .joining
  else if b = 2#8 then some .run
  else if b = 3#8 then some .monitorOnly
  else none

/-- The mode code a Status carries (R81, R201); the modes that send no Status of their own have none, and the
recovery Status carries JOINING (R91). -/
def modeCode : NodeMode → Nat
  | .starting => 0
  | .joining => 1
  | .run => 2
  | .monitorOnly => 3
  | .isolated => 1
  | .silent => 0

/-- Directive codes (R201). -/
inductive Directive where
  | hold
  | stop
  | forceEq
  | forceWater
  | clear
  | query
deriving DecidableEq, Repr

/-- The code of a directive (R201). -/
def directiveCode : Directive → Byte
  | .hold => 1#8
  | .stop => 2#8
  | .forceEq => 3#8
  | .forceWater => 4#8
  | .clear => 5#8
  | .query => 6#8

/-- Outcome codes; 0 is none (R201). -/
def outcomeCode : RoundOutcome → Nat
  | .complete => 1
  | .timedOut => 2
  | .aborted => 3
  | .yielded => 4
  | .dry => 5
  | .conflict => 6

/-- Cause codes; 0 is absent (R201). -/
def causeCode : Option AbortCause → Nat
  | none => 0
  | some .charger => 1
  | some .transfer => 2
  | some .position => 3
  | some .currentStale => 4
  | some .temperature => 5
  | some .stop => 6
  | some .line => 7
  | some .clash => 8

/-! ### Notices -/

/-- The EQ part of a Status, as carried (R81, R201). -/
structure EqPart where
  tag : Byte
  phase : Byte
  share : Nat
  snapshot : Nat
deriving DecidableEq, Repr

/-- The WATER part of a Status, as carried (R81, R201). -/
structure WaterPart where
  tag : Byte
  phase : Byte
  snapshot : Nat
deriving DecidableEq, Repr

/-- The body of a Status, as carried (R81, R201). `flags` is bytes 2 and 3 but for the two presence bits, which
the parts say. -/
structure StatusBody where
  mode : Byte
  round : Byte
  flags : BitVec 16
  score : Nat
  urgency : Nat
  eqPart : Option EqPart
  waterPart : Option WaterPart
deriving DecidableEq, Repr

/-- A valid notice of the site line (R78, R201). -/
inductive Notice where
  | directive (dest : Nat) (code : Byte) (param : Nat)
  | release (source : Nat) (resource tag reason : Byte)
  | claim (source : Nat) (resource tag : Byte) (snapshot share : Nat)
  | report (source : Nat) (body : List Byte)
  | status (source : Nat) (body : StatusBody)
deriving DecidableEq, Repr

/-- The frame of a notice: header, destination, length, body, CRC (section 5.2, R77, R201). -/
def encodeFrame (cls source dest : Nat) (body : List Byte) : List Byte :=
  let bytes := byteOf (cls * 32 + source) :: byteOf dest :: byteOf body.length :: body
  bytes ++ crcBytes bytes

/-- The six bytes of an EQ part (R201). -/
def eqPartBytes (p : EqPart) : List Byte :=
  [p.tag, p.phase] ++ be16 p.share ++ be16 p.snapshot

/-- The four bytes of a WATER part (R201). -/
def waterPartBytes (p : WaterPart) : List Byte :=
  [p.tag, p.phase] ++ be16 p.snapshot

/-- Bytes 2 and 3 of a Status: the flags with the presence bits, bit 1 EQ and bit 0 WATER (R201). -/
def statusFlagWord (b : StatusBody) : BitVec 16 :=
  (b.flags &&& 0xFFFC#16) ||| (if b.eqPart.isSome then 2#16 else 0#16)
    ||| (if b.waterPart.isSome then 1#16 else 0#16)

/-- The bytes of the claim parts a Status carries, the EQ part first (R81). -/
def partsBytes (eqPart : Option EqPart) (waterPart : Option WaterPart) : List Byte :=
  (match eqPart with | some p => eqPartBytes p | none => []) ++
    (match waterPart with | some p => waterPartBytes p | none => [])

/-- The body of a Status (R201). -/
def statusBytes (b : StatusBody) : List Byte :=
  [b.mode, b.round] ++ be16 (statusFlagWord b).toNat ++ be16 b.score ++ be16 b.urgency ++
    partsBytes b.eqPart b.waterPart

/-- The frame a notice travels in (R78, R81, R201). -/
def noticeFrame : Notice → List Byte
  | .directive dest code param => encodeFrame 1 30 dest (code :: be16 param)
  | .release source resource tag reason => encodeFrame 2 source 0 [resource, tag, reason]
  | .claim source resource tag snapshot share =>
      encodeFrame 3 source 0 ([resource, tag] ++ be16 snapshot ++ be16 share)
  | .report source body => encodeFrame 5 source 30 body
  | .status source b => encodeFrame 6 source 0 (statusBytes b)

/-- The test notice of the loopback self-test (R194). -/
def testFrame : List Byte := encodeFrame 0 0 0 [0x55#8, 0xAA#8, 0x0F#8]

/-! ### The serial bits of a frame -/

/-- The ten bits of one byte on the line, true recessive: start bit, data most significant first, stop bit (R74). -/
def byteBits (b : Byte) : List Bool :=
  [false, b.getLsbD 7, b.getLsbD 6, b.getLsbD 5, b.getLsbD 4, b.getLsbD 3, b.getLsbD 2, b.getLsbD 1, b.getLsbD 0, true]

/-- The bits of a frame on the line, with no gap between bytes (R74). -/
def frameBits (frame : List Byte) : List Bool := frame.flatMap byteBits

end Sys2Proof.Machine
end

