-- ==== Sys2Proof/Machine/Operands.lean ====
section
/-! DEFINITION. The operands of the commands read as values: the frames heard on the site line, the words of a scan,
the bytes of the configuration record. -/

namespace Sys2Proof.Machine

/-! ### Frames and notices -/

/-- A frame that passes the CRC (R77). -/
structure RawFrame where
  cls : Nat
  source : Nat
  dest : Nat
  body : List Byte
deriving DecidableEq, Repr

/-- The frame a run of bytes makes, if its length byte, its length and its CRC agree (R76, R77). -/
def readFrame : List Byte → Option RawFrame
  | header :: dest :: len :: rest =>
      if len.toNat ≤ 24 ∧ rest.length = len.toNat + 2 ∧
          rest.drop len.toNat = crcBytes (header :: dest :: len :: rest.take len.toNat) then
        some { cls := header.toNat / 32, source := header.toNat % 32, dest := dest.toNat,
               body := rest.take len.toNat }
      else none
  | _ => none

/-- The EQ part of the bytes that follow a Status's urgency, and what is left, if it is present and complete. -/
def readEqPart (present : Bool) (bytes : List Byte) : Option (Option EqPart × List Byte) :=
  if present then
    match bytes with
    | tag :: phase :: s1 :: s0 :: n1 :: n0 :: rest =>
        some (some { tag := tag, phase := phase, share := word16 s1 s0, snapshot := word16 n1 n0 }, rest)
    | _ => none
  else some (none, bytes)

/-- The WATER part of the bytes that follow, and what is left, if it is present and complete. -/
def readWaterPart (present : Bool) (bytes : List Byte) : Option (Option WaterPart × List Byte) :=
  if present then
    match bytes with
    | tag :: phase :: n1 :: n0 :: rest =>
        some (some { tag := tag, phase := phase, snapshot := word16 n1 n0 }, rest)
    | _ => none
  else some (none, bytes)

/-- A Status body whose length agrees with its presence bits (R78, R81, R201). -/
def readStatusBody : List Byte → Option StatusBody
  | mode :: round :: f1 :: f0 :: s1 :: s0 :: u1 :: u0 :: parts =>
      match readEqPart (f0.getLsbD 1) parts with
      | none => none
      | some (eqPart, rest) =>
          match readWaterPart (f0.getLsbD 0) rest with
          | some (waterPart, []) =>
              some { mode := mode, round := round, flags := BitVec.ofNat 16 (word16 f1 f0) &&& 0xFFFC#16,
                     score := word16 s1 s0, urgency := word16 u1 u0, eqPart := eqPart, waterPart := waterPart }
          | _ => none
  | _ => none

/-- The valid notice a frame is, by the table of R78. -/
def readNotice (nSite : Nat) (f : RawFrame) : Option Notice :=
  let fromString := decide (1 ≤ f.source) && decide (f.source ≤ nSite)
  match f.cls with
  | 1 =>
      match f.body with
      | [code, p1, p0] =>
          if f.source = 30 ∧ f.dest ≤ 24 then some (.directive f.dest code (word16 p1 p0)) else none
      | _ => none
  | 2 =>
      match f.body with
      | [resource, tag, reason] =>
          if fromString ∧ f.dest = 0 then some (.release f.source resource tag reason) else none
      | _ => none
  | 3 =>
      match f.body with
      | [resource, tag, n1, n0, s1, s0] =>
          if fromString ∧ f.dest = 0 then some (.claim f.source resource tag (word16 n1 n0) (word16 s1 s0)) else none
      | _ => none
  | 5 =>
      if fromString ∧ f.dest = 30 ∧ f.body.length = 24 then some (.report f.source f.body) else none
  | 6 =>
      if fromString ∧ f.dest = 0 then (readStatusBody f.body).map (.status f.source) else none
  | _ => none

/-- The valid notice a run of bytes heard on the line is, none when it is discarded (R77, R78). -/
def decodeNotice (nSite : Nat) (bytes : List Byte) : Option Notice :=
  (readFrame bytes).bind (readNotice nSite)

/-- The source station of a notice (R78); a Directive comes from the panel, 30. -/
def Notice.source : Notice → Nat
  | .directive _ _ _ => 30
  | .release source _ _ _ => source
  | .claim source _ _ _ _ => source
  | .report source _ => source
  | .status source _ => source

/-! ### Scan words -/

/-- Odd parity over the 17 bits (R3). -/
def goodParity (w : ScanWord) : Bool :=
  (List.range 17).foldl (fun p i => xor p (w.getLsbD i)) false

/-- The 16 data bits of a scan word. -/
def wordData (w : ScanWord) : BitVec 16 := w.extractLsb' 1 16

/-- The marker of a header word (R4, R201). -/
def headerMarker (w : ScanWord) : BitVec 12 := (wordData w).extractLsb' 4 12

/-- The scan sequence of a header word (R5, R201). -/
def headerSequence (w : ScanWord) : BitVec 4 := (wordData w).extractLsb' 0 4

/-- The front-end measurement fault bit of the status word (R7, R201). -/
def frontEndFault (w : ScanWord) : Bool := (wordData w).getLsbD 0

/-- Word `i` of a scan; a word that is not there reads as zeros, which is bad parity (log entry 13). -/
def scanWordAt (words : List ScanWord) (i : Nat) : ScanWord := words.getD i 0#17

/-- A number against its plausible range: the accepted value, and whether it was clamped (R10). -/
def acceptValue (lo hi v : Int) : Int × Bool :=
  if v < lo then (lo, true) else if hi < v then (hi, true) else (v, false)

/-- A channel word read in its channel's unit and range, none for bad parity (R9, R10). -/
def readChannelWord (signed : Bool) (lo hi : Int) (w : ScanWord) : Option (Int × Bool) :=
  if goodParity w then
    some (acceptValue lo hi (if signed then (wordData w).toInt else ((wordData w).toNat : Int)))
  else none

/-! ### The configuration record -/

/-- Byte `i` of the record as a number. -/
def recordByte (r : List Byte) (i : Nat) : Nat := (r.getD i 0#8).toNat

/-- The two-byte field at byte `i` of the record, high byte first. -/
def recordWord (r : List Byte) (i : Nat) : Nat := recordByte r i * 256 + recordByte r (i + 1)

/-- Bit `b` of byte `i` of the record. -/
def recordBit (r : List Byte) (i b : Nat) : Bool := (r.getD i 0#8).getLsbD b

/-- The check of R191: 48 bytes whose CRC matches and whose format code is 0x01. -/
def recordPasses (r : List Byte) : Bool :=
  r.length == 48 && r.drop 46 == crcBytes (r.take 46) && recordByte r 0 == 1

/-- The nearer limit of a range (00_scope.md "Arithmetic": clamped). -/
def clampTo (lo hi v : Nat) : Nat := if v < lo then lo else if hi < v then hi else v

/-- The selection a two-bit code names; a code outside the three is taken as BOTH (R40, R192). -/
def selectionOf (code : Nat) : EventSelection :=
  match code with
  | 1 => .entry
  | 2 => .ret
  | _ => .both

/-- Whether the code is one of the three listed (R40). -/
def selectionListed (code : Nat) : Bool := code == 1 || code == 2 || code == 3

/-- The cell counts with `excess` cells taken off, the highest-numbered group first and none below one (R192);
the second component is the excess still left. -/
def trimCells : List Nat → Nat → List Nat × Nat
  | [], excess => ([], excess)
  | n :: rest, excess =>
      let (rest', left) := trimCells rest excess
      let cut := min left (n - 1)
      ((n - cut) :: rest', left - cut)

/-- The fields of a record as it holds them, before any clamp (R201). -/
def rawConfiguration (r : List Byte) : Configuration where
  nSite := recordByte r 1
  rMin := recordByte r 2
  eBus := recordWord r 3
  capacity := recordWord r 5
  eta := recordByte r 7
  shareDivisor := recordByte r 8
  intervalDays := recordWord r 9
  turnoverLimit := recordByte r 11
  sOk := recordByte r 12
  sBad := recordWord r 13
  dv := recordWord r 15
  vhi := recordWord r 17
  vlo := recordWord r 19
  devSelection := selectionOf (recordByte r 21 / 64)
  highSelection := selectionOf (recordByte r 21 / 16 % 4)
  lowSelection := selectionOf (recordByte r 21 / 4 % 4)
  almActiveHigh := recordBit r 21 1
  alwaysOn := recordBit r 21 0
  holdMinutes := recordByte r 22
  minHours := recordByte r 23 / 16
  restHours := recordByte r 23 % 16
  maxHours := recordByte r 24
  wth := recordByte r 25 * 65536 + recordByte r 26 * 256 + recordByte r 27
  groupCount := recordByte r 28
  cells := (r.drop 29).take 8 |>.map BitVec.toNat
  onSeconds := recordByte r 37
  offSeconds := recordByte r 38
  vFlow := recordByte r 39
  period := recordByte r 40
  window := recordByte r 41
  blocCount := recordByte r 42
  probeEnable := r.getD 43 0#8
  probeInvert := r.getD 44 0#8
  fbEnable := recordBit r 45 5
  crdyEnable := recordBit r 45 4
  flowEnable := recordBit r 45 3
  fbInvert := recordBit r 45 2
  crdyInvert := recordBit r 45 1
  flowInvert := recordBit r 45 0

/-- The cell counts of groups 1 to G, each clamped to 1..24 and then trimmed to a sum of at most B (R192). -/
def clampCells (groupCount blocCount : Nat) (cells : List Nat) : List Nat :=
  let each := (cells.take groupCount).map (clampTo 1 24)
  (trimCells each (each.sum - blocCount)).1

/-- Every field clamped to its range, a dependent field after the field it depends on (R192, and the ranges of
R17, R40, R56, R63, R66, R119, R153, R163). -/
def clampConfiguration (c : Configuration) : Configuration :=
  let nSite := clampTo 2 24 c.nSite
  let sOk := clampTo 5 200 c.sOk
  let blocCount := clampTo 4 24 c.blocCount
  let groupCount := clampTo 1 (min 8 blocCount) c.groupCount
  { c with
    nSite := nSite
    rMin := clampTo 1 (nSite - 1) c.rMin
    eBus := clampTo 10 5000 c.eBus
    capacity := clampTo 20 4000 c.capacity
    eta := clampTo 90 100 c.eta
    shareDivisor := clampTo 10 50 c.shareDivisor
    intervalDays := clampTo 7 365 c.intervalDays
    turnoverLimit := clampTo 1 20 c.turnoverLimit
    sOk := sOk
    sBad := clampTo (sOk + 10) 400 c.sBad
    dv := clampTo 10 300 c.dv
    vhi := clampTo 2200 2700 c.vhi
    vlo := clampTo 1600 2000 c.vlo
    holdMinutes := clampTo 30 240 c.holdMinutes
    minHours := clampTo 1 8 c.minHours
    restHours := clampTo 1 8 c.restHours
    maxHours := clampTo 4 24 c.maxHours
    wth := clampTo 10000 500000 c.wth
    groupCount := groupCount
    cells := clampCells groupCount blocCount c.cells
    onSeconds := clampTo 1 20 c.onSeconds
    offSeconds := clampTo 2 60 c.offSeconds
    vFlow := clampTo 1 50 c.vFlow
    period := clampTo 5 60 c.period
    window := clampTo 2 10 c.window
    blocCount := blocCount }

/-- The configuration a passing record puts in force (R192). -/
def checkedConfiguration (r : List Byte) : Configuration := clampConfiguration (rawConfiguration r)

/-- Whether a clamp or a substituted selection changed the record (R192): a field in range is not changed by its
clamp, and the cell counts above G are not checked. -/
def recordClamped (r : List Byte) : Bool :=
  let raw := rawConfiguration r
  let c := clampConfiguration raw
  decide (c ≠ { raw with cells := raw.cells.take c.groupCount }) ||
    !(selectionListed (recordByte r 21 / 64) && selectionListed (recordByte r 21 / 16 % 4) &&
      selectionListed (recordByte r 21 / 4 % 4))

end Sys2Proof.Machine
end

