-- ==== Sys2Proof/Machine/Ops.lean ====
section
/-! DEFINITION. The named operations on the state that more than one block uses: the time base, the outgoing queue,
the claim machines, the duty, the group records, the level inputs and the values derived from the configuration. -/

namespace Sys2Proof.Machine

/-! ### The scan link -/

/-- The words that a waiting SAMPLE_SET gives for the scan in progress, with no RESET and no other scan
before it (log entry 7). -/
def incomingWords : List Instr → Option (List ScanWord)
  | [] => none
  | .sampleSet words :: _ => some words
  | .reset :: _ => none
  | .scanStart :: _ => none
  | _ :: rest => incomingWords rest

/-- Word `i` of a scan that completes at `ends` has arrived: 17 bit times for each word up to it (R2). -/
def wordArrived (ends now i : Nat) : Bool := decide (ends ≤ now + scanWordUs * (29 - i))

/-- Word `i` of the scan that completes at `ends` as the front end sends it: the word of the SAMPLE_SET that waits, and
a free value where none waits (R2, log entries 7 and 27). -/
def State.linkWord (s : State) (ends i : Nat) : ScanWord :=
  match incomingWords s.pending with
  | some words => scanWordAt words i
  | none => Config.linkWord s.resets ends i

/-- The sample buffer at the time `now`: in a scan each word that has arrived by then is stored in its place (R2). -/
def State.wordsStored (s : State) (now : Nat) : List ScanWord :=
  match s.scn.scanEnds with
  | some ends =>
      (List.range 30).map fun i => if wordArrived ends now i then s.linkWord ends i else s.scn.buffer.getD i 0#17
  | none => s.scn.buffer

/-! ### The time base -/

/-- The time base comes to `now`: SCN stores the words that arrive meanwhile (R2). -/
def State.atTime (s : State) (now : Nat) : State :=
  { s with now := now, scn.buffer := s.wordsStored now }

/-- Time passes before a command from outside (log entry 1). -/
def State.elapse (s : State) (after : Nat) : State := s.atTime (s.now + after)

/-- The time base reaches the expiry time `d` of a timer; an expiry taken late leaves the time as it is
(log entry 1). -/
def State.reach (s : State) (d : Nat) : State := s.atTime (max s.now d)

/-! ### The configuration memory -/

/-- The read request the part clocks out to the configuration memory: the code 0x03 and the two-byte address 0 (R191). -/
def memoryRequest : List Byte := [0x03#8, 0x00#8, 0x00#8]

/-- The bit of the read request on the scan link, most significant first, while the part clocks it out (R191). -/
def State.requestBit (s : State) : Option Bool :=
  if s.cfg.readEnded then none
  else (memoryRequest.flatMap fun b => (List.range 8).map fun i => b.getMsbD i)[s.now / linkBitUs]?

/-! ### The bits of the site line -/

/-- Whole bit times from one time to another (R73). -/
def bitTimes (since now : Nat) : Nat := (now - since) * 19200 / 1000000

/-- The place in its frame of the bit an attempt sends at a time: whole bit times since its start (R73, R74). -/
def Attempt.bitIndex (a : Attempt) (now : Nat) : Nat := bitTimes a.start now

/-- The bit an attempt sends at a time, true recessive; none when its frame is out. -/
def Attempt.sentBit (a : Attempt) (now : Nat) : Option Bool := (frameBits a.frame)[a.bitIndex now]?

/-- The attempt is in the 8 data bits of its header (R84, R86). -/
def Attempt.inHeader (a : Attempt) (now : Nat) : Bool := decide (1 ≤ a.bitIndex now) && decide (a.bitIndex now ≤ 8)

/-- A dominant bit read at this time loses arbitration: a recessive bit is being sent in the header (R84). -/
def Attempt.canLose (a : Attempt) (now : Nat) : Bool := a.inHeader now && a.sentBit now == some true

/-- A mismatch at this time is a bit error: a dominant bit is being sent, or a recessive one outside the header's data
bits (R86). -/
def Attempt.canFail (a : Attempt) (now : Nat) : Bool :=
  a.sentBit now == some false || (a.sentBit now == some true && !a.inHeader now)

/-- The recessive bits in a row at the end of a run of bits (R75). -/
def recessiveTail (bits : List Bool) : Nat := (bits.reverse.takeWhile id).length

/-- The recessive bits in a row before bit `k` of a frame, 0 when that bit is dominant (R75). -/
def recessiveRun (bits : List Bool) (k : Nat) : Nat := if bits.getD k true then recessiveTail (bits.take k) else 0

/-- Whole bit times of recessive line counted outside the own attempts: what has passed since the timer was last known at 0
while the line is known recessive, and no more than the line has been recessive afterwards (R75, log entries 7 and 27). -/
def IdleTimer.value (resets now : Nat) : IdleTimer → Nat
  | .counting since => min 11 (min (bitTimes since now) (Config.lineRun resets now))
  | .tail since heard =>
      min 11 (if now ≤ heard then bitTimes since now else min (bitTimes since now) (Config.lineRun resets now))
  | .full reached => if now ≤ reached then 12 else min 12 (Config.lineRun resets now)

/-- The idle timer's value in bit times, 0 to 12 (R75); it stays at 0 in STARTING (R93). In an own attempt the line
carries the frame's own bits. -/
def State.idleTimer (s : State) : Nat :=
  if s.cfg.mode = .starting then 0
  else
    match s.lin.attempt with
    | some a => min 12 (recessiveRun (frameBits a.frame) (a.bitIndex s.now))
    | none => s.lin.idle.value s.resets s.now

/-- The time at which the timer was last known at 0, none when it has been full since (R75). -/
def IdleTimer.since : IdleTimer → Option Nat
  | .counting since => some since
  | .tail since _ => some since
  | .full _ => none

/-- 12 bit times have passed since the timer was last known at 0: it can be full (R75). -/
def IdleTimer.canFill (i : IdleTimer) (now : Nat) : Bool := i.since.all fun since => decide (since + idleUs ≤ now)

/-- The idle timer after bits heard that end now: at 0 at the end of the last dominant one (R75). -/
def idleAfter (bits : List Bool) (now : Nat) : IdleTimer := .tail (now - bitsUs (recessiveTail bits)) now

/-! ### Figures from the configuration and the address -/

/-- The station address as a number; 0 while none is held (R190). -/
def State.address (s : State) : Nat := (s.cfg.address.map BitVec.toNat).getD 0

/-- Qmax = C × 36000 fine units (R17). -/
def qmax (c : Configuration) : Nat := c.capacity * 36000

/-- The request R = floor(C × 10 / q), clamped to E_bus (R119). -/
def requestShare (c : Configuration) : Nat := min (c.capacity * 10 / c.shareDivisor) c.eBus

/-- The minimum share floor(R / 2) (R119). -/
def minimumShare (c : Configuration) : Nat := requestShare c / 2

/-- The back-off time W × (1 + (own address mod 4)) seconds (R119). -/
def State.backOffUs (s : State) : Nat := secondsUs (s.cfg.config.window * (1 + s.address % 4))

/-- The offset of the first Status period expiry, (own address × 400 ms) mod P (R117). -/
def State.statusOffsetUs (s : State) : Nat := (s.address * 400000) % secondsUs s.cfg.config.period

/-! ### The outgoing queue -/

/-- The queue takes notices in JOINING, RUN and MONITOR_ONLY (R116). -/
def queueOpen : NodeMode → Bool
  | .joining => true
  | .run => true
  | .monitorOnly => true
  | .starting => false
  | .isolated => false
  | .silent => false

/-- A request for a Status (R116): it lapses where the queue takes nothing, and adds nothing to a queued one. -/
def requestStatus (s : State) : State :=
  if queueOpen s.cfg.mode then { s with clm.statusQueued := true } else s

/-- A request for a Report (R116, R200). -/
def requestReport (s : State) : State :=
  if queueOpen s.cfg.mode then { s with clm.reportQueued := true } else s

/-- The claim machine of a resource (R113). -/
def Clm.machine (c : Clm) : Resource → ClaimMachine
  | .eq => c.eq
  | .water => c.water

/-- The Claim Controller with another machine for a resource. -/
def Clm.withMachine (c : Clm) (r : Resource) (m : ClaimMachine) : Clm :=
  match r with
  | .eq => { c with eq := m }
  | .water => { c with water := m }

/-- The back-off timer of a resource (R130). -/
def Clm.backOff (c : Clm) : Resource → Option Nat
  | .eq => c.eqBackOff
  | .water => c.waterBackOff

/-- The Claim Controller with another back-off timer for a resource. -/
def Clm.withBackOff (c : Clm) (r : Resource) (t : Option Nat) : Clm :=
  match r with
  | .eq => { c with eqBackOff := t }
  | .water => { c with waterBackOff := t }

/-- The state with another machine for a resource. -/
def State.withMachine (s : State) (r : Resource) (m : ClaimMachine) : State :=
  { s with clm := s.clm.withMachine r m }

/-- The first notice of the outgoing queue, in the order of R115. -/
def Clm.queueHead (c : Clm) : Option NoticeKey :=
  if c.eq.state = .releasing then some (.release .eq c.eq.tag)
  else if c.water.state = .releasing then some (.release .water c.water.tag)
  else if c.eq.state = .queued then some (.claim .eq c.eq.tag)
  else if c.water.state = .queued then some (.claim .water c.water.tag)
  else if c.reportQueued then some .report
  else if c.statusQueued then some .status
  else none

/-- The notice the next attempt would carry: the recovery Status in a recovery (R91), else the queue's head in the
modes that send from the queue (R82, R93). -/
def State.nextNotice (s : State) : Option NoticeKey :=
  if s.lin.recovering then some .recovery
  else if queueOpen s.cfg.mode then s.clm.queueHead
  else none

/-- The transmit engine's state (R82). -/
def State.engine (s : State) : Engine :=
  if s.lin.attempt.isSome then .sending
  else if s.nextNotice.isSome then .waiting
  else .quiet

/-! ### The limiter duty -/

/-- Setting the duty: a duty of 0 takes effect at once in the period under way, another at the next period (R186). -/
def setDuty (s : State) (d : Nat) : State :=
  { s with rnd.duty := d, fld.pwmDuty := if d = 0 then 0 else s.fld.pwmDuty }

/-! ### Group records -/

/-- The record of a group (R164). -/
def State.group (s : State) (g : Fin 8) : GroupRecord := s.wat.groups.getD g.val resetGroup

/-- The state with another record for a group. -/
def State.withGroup (s : State) (g : Fin 8) (r : GroupRecord) : State :=
  { s with wat.groups := s.wat.groups.set g.val r }

/-- A group is enabled when its number is at most G (R163, R164). -/
def groupEnabled (c : Configuration) (g : Fin 8) : Bool := decide (g.val < c.groupCount)

/-- The cells of a group (R163). -/
def groupCells (c : Configuration) (g : Fin 8) : Nat := c.cells.getD g.val 0

/-! ### Level inputs -/

/-- Whether an input is enabled by the configuration; the probe of a group above G is disabled (R163, R180). -/
def inputEnabled (c : Configuration) : LevelInput → Bool
  | .fb => c.fbEnable
  | .crdy => c.crdyEnable
  | .prb g => groupEnabled c g && c.probeEnable.getLsbD g.val

/-- Whether an input is inverted (R180). -/
def inputInverted (c : Configuration) : LevelInput → Bool
  | .fb => c.fbInvert
  | .crdy => c.crdyInvert
  | .prb g => c.probeInvert.getLsbD g.val

/-- The line of a level input. -/
def Fld.line (f : Fld) : LevelInput → LevelLine
  | .fb => f.fb
  | .crdy => f.crdy
  | .prb g => f.probes.getD g.val resetLine

/-- The Field Lines with another line for an input. -/
def Fld.withLine (f : Fld) (i : LevelInput) (l : LevelLine) : Fld :=
  match i with
  | .fb => { f with fb := l }
  | .crdy => { f with crdy := l }
  | .prb g => { f with probes := f.probes.set g.val l }

/-- The raw level: the pin's level after the invert; a normal input is active while its pin is high (R180, R181). -/
def rawActive (c : Configuration) (i : LevelInput) (l : LevelLine) : Bool :=
  xor l.pinHigh (inputInverted c i)

/-- FB as presented: true is the equalise position (R143, R180). -/
def State.fbEqualise (s : State) : Bool := s.fld.fb.active

/-- CRDY as presented (R180). -/
def State.chargerReady (s : State) : Bool := s.fld.crdy.active

/-- A group's probe is enabled (R163). -/
def State.probeEnabled (s : State) (g : Fin 8) : Bool := inputEnabled s.cfg.config (.prb g)

/-- A group's probe reads wet; a disabled probe reads dry (R163). -/
def State.probeWet (s : State) (g : Fin 8) : Bool :=
  s.probeEnabled g && (s.fld.line (.prb g)).active

/-! ### What the account presents -/

/-- The string is full when Q equals Qmax (R38). -/
def State.stringFull (s : State) : Bool := s.acc.charge == qmax s.cfg.config

/-- The presented score: 1000 while FORCE_EQ is set, else the computed score (R60). -/
def Acc.presentedScore (a : Acc) : Nat := if a.forceEq then 1000 else a.tt + a.tq + a.ts

/-- A charge in reported units of 0.01 Ah (R25). -/
def reportedCharge (fine : Nat) : Nat := fine / 360

/-- Water deficit per cell, capped at 999,999 µL (R31). -/
def deficitOf (gassing : Nat) : Nat := min 999999 (gassing * 7 / 750)

/-- Water urgency (R32). -/
def urgencyOf (deficit : Nat) : Nat := min 1000 (deficit / 100)

/-! ### The site figures of the peer table -/

/-- A record is FRESH while its age is at most 3P (R106). -/
def PeerRecord.isFresh (period : Nat) (p : PeerRecord) : Bool := decide (p.age ≤ 3 * period)

/-- A record is in reserve (R108). -/
def PeerRecord.inReserve (period : Nat) (p : PeerRecord) : Bool :=
  p.isFresh period && p.available && !p.discharging && decide (p.mode ≠ .unreported)

/-- The available unclaimed peer count (R108). -/
def availableUnclaimed (period : Nat) (ptb : List PeerRecord) : Nat :=
  ptb.countP fun p => p.inReserve period && p.eqClaim.isNone

/-- The EQ share a record commits (R109). -/
def PeerRecord.eqShare (p : PeerRecord) : Nat := (p.eqClaim.map EqClaim.share).getD 0

/-- The committed share (R109). -/
def committedShare (ptb : List PeerRecord) : Nat := (ptb.map PeerRecord.eqShare).sum

/-- The water line is occupied in the own view (R110). -/
def waterOccupied (ptb : List PeerRecord) : Bool := ptb.any fun p => p.waterClaim.isSome

/-- A_unclaimed (R120). -/
def State.aUnclaimed (s : State) : Nat :=
  availableUnclaimed s.cfg.config.period s.ptb +
    (if (s.rnd.round = .float ∨ s.rnd.round = .due ∨ s.rnd.round = .claiming) ∧ s.acc.discharging = false then 1 else 0)

/-- Committed_others (R120). -/
def State.committedOthers (s : State) : Nat := committedShare s.ptb

end Sys2Proof.Machine
end

