-- ==== Sys2Proof/Machine/Scan.lean ====
section
/-! DEFINITION. SCN: the checks on a scan and the step of each channel (chapter 1). -/

namespace Sys2Proof.Machine

/-- How the header of a scan is classified (R4, R5). -/
inductive HeaderClass where
  | miss
  | repeated
  | accepted
deriving DecidableEq, Repr

/-- The classification of a header word against the expected sequence (R4, R5). -/
def classifyHeader (expected : Option (BitVec 4)) (header : ScanWord) : HeaderClass :=
  if goodParity header && headerMarker header == 0xA5C#12 then
    match expected with
    | none => .accepted
    | some e => if headerSequence header = e then .accepted else .repeated
  else .miss

/-- The expected sequence after the header has been handled (R4, R5). -/
def nextExpected (expected : Option (BitVec 4)) (header : ScanWord) : Option (BitVec 4) :=
  match classifyHeader expected header with
  | .miss => expected.map (· + 1#4)
  | .repeated => some (headerSequence header + 1#4)
  | .accepted => some (headerSequence header + 1#4)

/-- Whether the channel words of a scan are examined: the header is accepted and the status word has good parity
and no fault (R6, R7). -/
def scanExamined (expected : Option (BitVec 4)) (words : List ScanWord) : Bool :=
  classifyHeader expected (scanWordAt words 0) == .accepted &&
    goodParity (scanWordAt words 29) && !frontEndFault (scanWordAt words 29)

/-- The step of a channel for a valid scan that accepts `v` (R10, R11, R12). -/
def Channel.stepValid (c : Channel) (v : Int) (clamped : Bool) : Channel :=
  match c.freshness with
  | .stale =>
      if c.recoveryRun < 2 then
        { c with value := v, recoveryRun := c.recoveryRun + 1, clamped := clamped }
      else { value := v, freshness := .fresh, invalidRun := 0, recoveryRun := 0, clamped := clamped }
  | _ => { c with value := v, freshness := .fresh, invalidRun := 0, clamped := clamped }

/-- The step of a channel for an invalid scan (R9, R11, R12). -/
def Channel.stepInvalid (c : Channel) : Channel :=
  match c.freshness with
  | .stale => { c with recoveryRun := 0, invalidRun := 5, clamped := false }
  | .fresh => { c with freshness := .held, invalidRun := 1, clamped := false }
  | .held =>
      if c.invalidRun < 4 then { c with invalidRun := c.invalidRun + 1, clamped := false }
      else { c with freshness := .stale, invalidRun := 5, recoveryRun := 0, clamped := false }

/-- The step of a channel at a sample set: what its word gave, none when the scan is invalid for it (section 1.5). -/
def Channel.step (c : Channel) (reading : Option (Int × Bool)) : Channel :=
  match reading with
  | some (v, clamped) => c.stepValid v clamped
  | none => c.stepInvalid

/-- A channel's value may be used by a reader that takes FRESH or HELD (R13, R19). -/
def Channel.usable (c : Channel) : Bool := decide (c.freshness ≠ .stale)

/-- What a channel word gives a channel, none throughout a scan that is not examined (R6, R7, R9, R10). -/
def channelReading (examined : Bool) (signed : Bool) (lo hi : Int) (words : List ScanWord) (i : Nat) :
    Option (Int × Bool) :=
  if examined then readChannelWord signed lo hi (scanWordAt words i) else none

/-- Every bloc channel stepped with its word, bloc i + 1 with word i + 1 (R8, R10). -/
def stepBlocs (examined : Bool) (words : List ScanWord) (blocs : List Channel) : List Channel :=
  blocs.mapIdx fun i c => c.step (channelReading examined false 0 4000 words (i + 1))

/-- 1 for a STALE channel (R15). -/
def Channel.staleOne (c : Channel) : Nat := if c.usable then 0 else 1

/-- The stale channel count over the channels in use (R15). -/
def countStale (blocs : List Channel) (current voltage pilot ambient : Channel) : Nat :=
  (blocs.map Channel.staleOne).sum + current.staleOne + voltage.staleOne + pilot.staleOne + ambient.staleOne

/-- SCN at the completion of a scan: the buffer checked, every channel stepped, the count made (R2 to R15). -/
def Scn.complete (c : Scn) (words : List ScanWord) : Scn :=
  let examined := scanExamined c.expected words
  let blocs := stepBlocs examined words c.blocs
  let current := c.current.step (channelReading examined true (-30000) 30000 words 25)
  let voltage := c.voltage.step (channelReading examined false 0 65535 words 26)
  let pilot := c.pilot.step (channelReading examined true (-400) 850 words 27)
  let ambient := c.ambient.step (channelReading examined true (-400) 850 words 28)
  { scanEnds := none
    buffer := (List.range 30).map (scanWordAt words)
    expected := nextExpected c.expected (scanWordAt words 0)
    blocs := blocs
    current := current
    voltage := voltage
    pilot := pilot
    ambient := ambient
    staleCount := countStale blocs current voltage pilot ambient }

end Sys2Proof.Machine
end

