-- ==== Sys2Proof/Machine/Account.lean ====
section
/-! DEFINITION. ACC: the charge account, the discharge detector, the water deficit and the urgency score
(chapter 2, sections 4.1 and 4.2). -/

namespace Sys2Proof.Machine

/-- The limit of the 32-bit saturating counts (R24). -/
def countLimit : Nat := 4294967295

/-- A saturating addition to a 32-bit count (R24). -/
def satAdd (count n : Nat) : Nat := min countLimit (count + n)

/-- Booking one second of discharge `d` (R20). -/
def Acc.bookDischarge (a : Acc) (d : Nat) : Acc :=
  { a with charge := a.charge - d, discharged := satAdd a.discharged d }

/-- Booking one second of charge `c`: split below full, all of it gassing at full (R21, R22, R23). -/
def Acc.bookCharge (cfg : Configuration) (a : Acc) (c : Nat) : Acc :=
  let stored := c * cfg.eta / 100
  let room := qmax cfg - a.charge
  if a.charge < qmax cfg then
    if stored ≤ room then { a with charge := a.charge + stored, gassing := satAdd a.gassing (c - stored) }
    else { a with charge := qmax cfg, gassing := satAdd a.gassing (c - room) }
  else { a with gassing := satAdd a.gassing c }

/-- Stage 1: integration of the current, and the account uncertain flag (R19, R33). -/
def Acc.integrate (cfg : Configuration) (current : Channel) (a : Acc) : Acc :=
  if current.usable then
    let booked :=
      if current.value < 0 then a.bookDischarge (-current.value).toNat
      else if current.value = 0 then a
      else a.bookCharge cfg current.value.toNat
    { booked with uncertain := a.uncertain || current.clamped }
  else { a with uncertain := true }

/-- The round states in which the string does not count as on float for full recognition and rest (section 2.3, R63). -/
def offFloat : RoundState → Bool
  | .transferOut => true
  | .equalising => true
  | .soak => true
  | .transferBack => true
  | .stuck => true
  | .float => false
  | .due => false
  | .claiming => false
  | .prepare => false
  | .rest => false
  | .waterDue => false
  | .waterClaiming => false
  | .watering => false
  | .inhibited => false

/-- The timer counts a step: a usable current in the full band, on float (R26). -/
def fullBand (cfg : Configuration) (current : Channel) (round : RoundState) : Bool :=
  current.usable && decide (0 ≤ current.value) && decide (current.value ≤ (cfg.capacity * 10 / 200 : Nat)) &&
    !offFloat round

/-- Full recognition happens at this sample set: the timer steps from 7199 to 7200 (R27). -/
def Acc.recognises (cfg : Configuration) (current : Channel) (round : RoundState) (a : Acc) : Bool :=
  fullBand cfg current round && a.fullTimer == 7199

/-- Stage 2: the full-recognition timer and full recognition (R26, R27). -/
def Acc.stepFull (cfg : Configuration) (current : Channel) (round : RoundState) (a : Acc) : Acc :=
  if a.recognises cfg current round then { a with fullTimer := 7200, charge := qmax cfg, uncertain := false }
  else if fullBand cfg current round then { a with fullTimer := min 7200 (a.fullTimer + 1) }
  else { a with fullTimer := 0 }

/-- The discharge limit, −floor(C × 10 / 100) (section 2.4). -/
def dischargeLimit (cfg : Configuration) : Int := -((cfg.capacity * 10 / 100 : Nat) : Int)

/-- Stage 3: the discharge detector (R28, R29). -/
def Acc.stepDetector (cfg : Configuration) (current : Channel) (a : Acc) : Acc :=
  if a.discharging then
    if current.usable && decide (0 ≤ current.value) then
      if a.recoveryRun < 59 then { a with recoveryRun := a.recoveryRun + 1 }
      else { a with recoveryRun := 0, dischargeRun := 0, discharging := false }
    else { a with recoveryRun := 0 }
  else
    if current.usable && decide (current.value ≤ dischargeLimit cfg) then
      if a.dischargeRun < 59 then { a with dischargeRun := a.dischargeRun + 1 }
      else { a with dischargeRun := 0, recoveryRun := 0, discharging := true }
    else { a with dischargeRun := 0 }

/-- Stage 4: the water deficit and the water urgency (R31, R32). -/
def Acc.refreshWater (a : Acc) : Acc :=
  { a with deficit := deficitOf a.gassing, urgency := urgencyOf (deficitOf a.gassing) }

/-- The time term (R57). -/
def timeTerm (cfg : Configuration) (hours : Nat) : Nat := min 400 (400 * hours / (cfg.intervalDays * 24))

/-- The turnover term (R58). -/
def turnoverTerm (cfg : Configuration) (discharged : Nat) : Nat :=
  min 300 (300 * reportedCharge discharged / (cfg.turnoverLimit * cfg.capacity * 100))

/-- The spread term of a valid S_float (R59). -/
def spreadTerm (cfg : Configuration) (sFloat : Nat) : Nat :=
  if sFloat ≤ cfg.sOk then 0
  else if cfg.sBad ≤ sFloat then 300
  else 300 * (sFloat - cfg.sOk) / (cfg.sBad - cfg.sOk)

/-- Stage 5: the score terms, from MON's results of the same sample set (R56 to R60, R43). -/
def Acc.stepScore (cfg : Configuration) (mon : Mon) (a : Acc) : Acc :=
  { a with
    tt := timeTerm cfg a.hours
    tq := turnoverTerm cfg a.discharged
    ts := if mon.sFloatValid then spreadTerm cfg mon.sFloat else a.ts }

/-- ACC at a sample set: the five stages in order (R18). -/
def Acc.sampleSet (cfg : Configuration) (current : Channel) (round : RoundState) (mon : Mon) (a : Acc) : Acc :=
  ((((a.integrate cfg current).stepFull cfg current round).stepDetector cfg current).refreshWater).stepScore cfg mon

/-- ACC at the report of an equalising round end (R35, R37). -/
def Acc.equaliseEnd (a : Acc) (outcome : RoundOutcome) : Acc :=
  let a := { a with forceEq := false, forceWater := false }
  if outcome = .complete ∨ outcome = .timedOut then { a with hours := 0, discharged := 0, restarted := false } else a

/-- ACC at the report of a watering round end (R36, R37). -/
def Acc.wateringEnd (a : Acc) : Acc :=
  { a with forceEq := false, forceWater := false, gassing := 0, deficit := 0, urgency := 0 }

/-- ACC at an hour expiry (R30). -/
def Acc.hourExpiry (a : Acc) : Acc := { a with hours := min 65535 (a.hours + 1) }

end Sys2Proof.Machine
end

