-- ==== Sys2Proof/Machine/Peers.lean ====
section
/-! DEFINITION. PTB: the peer records, their updates and their ageing (chapter 6). -/

namespace Sys2Proof.Machine

/-- The record of an address (R95). -/
def findPeer (ptb : List PeerRecord) (a : Nat) : Option PeerRecord := ptb.find? fun p => p.address == a

/-- The table with this record for its address: the addresses stay in rising order, one record each (R95). -/
def putPeer (p : PeerRecord) : List PeerRecord → List PeerRecord
  | [] => [p]
  | q :: rest =>
      if p.address < q.address then p :: q :: rest
      else if p.address = q.address then p :: rest
      else q :: putPeer p rest

/-- A record at its creation (R98). -/
def newPeer (a : Nat) : PeerRecord :=
  { address := a, mode := .unreported, available := false, discharging := false, eqClaim := none,
    waterClaim := none, age := 0 }

/-- The record an accepted notice of an address applies to: the one held, or a new one, with age 0 (R98, R99). -/
def renewedPeer (ptb : List PeerRecord) (a : Nat) : PeerRecord :=
  { (findPeer ptb a).getD (newPeer a) with age := 0 }

/-- Ageing at a one-second expiry: one more on every age, and no record above 6P (R106, R107). -/
def agePeers (period : Nat) (ptb : List PeerRecord) : List PeerRecord :=
  (ptb.filter fun p => decide (p.age + 1 ≤ 6 * period)).map fun p => { p with age := p.age + 1 }

/-! ### The contents of a notice (R97) -/

/-- The EQ claim a Status part carries, none when its contents are refused (R97). -/
def readEqClaim (p : EqPart) : Option EqClaim :=
  if p.tag = 0#8 ∨ 1000 < p.snapshot then none
  else (phaseOf p.phase).map fun ph => { tag := p.tag.toNat, share := p.share, snapshot := p.snapshot, phase := ph }

/-- The WATER claim a Status part carries, none when its contents are refused (R97). -/
def readWaterClaim (p : WaterPart) : Option WaterClaim :=
  if p.tag = 0#8 ∨ 1000 < p.snapshot then none
  else (phaseOf p.phase).map fun ph => { tag := p.tag.toNat, snapshot := p.snapshot, phase := ph }

/-- A part that may be absent, read: none when it is present and refused. -/
def readPart {α β : Type} (read : α → Option β) : Option α → Option (Option β)
  | none => some none
  | some p => (read p).map some

/-- What a Status gives the record, none when the Status is refused (R97, R100, R101). -/
def applyStatus (b : StatusBody) (p : PeerRecord) : Option PeerRecord :=
  match peerModeOf b.mode, readPart readEqClaim b.eqPart, readPart readWaterClaim b.waterPart with
  | some mode, some eqClaim, some waterClaim =>
      if b.round.toNat ≤ 13 ∧ b.score ≤ 1000 ∧ b.urgency ≤ 1000 then
        some { p with mode := mode, available := b.flags.getLsbD 15, discharging := b.flags.getLsbD 14,
                      eqClaim := eqClaim, waterClaim := waterClaim }
      else none
  | _, _, _ => none

/-- What a Claim gives the record, none when the Claim is refused (R97, R102). -/
def applyClaim (resource tag : Byte) (snapshot share : Nat) (p : PeerRecord) : Option PeerRecord :=
  if tag = 0#8 ∨ 1000 < snapshot then none
  else
    match resourceOf resource with
    | some .eq =>
        if p.eqClaim.map EqClaim.tag = some tag.toNat then some p
        else some { p with eqClaim := some { tag := tag.toNat, share := share, snapshot := snapshot, phase := .contending } }
    | some .water =>
        if p.waterClaim.map WaterClaim.tag = some tag.toNat then some p
        else some { p with waterClaim := some { tag := tag.toNat, snapshot := snapshot, phase := .contending } }
    | none => none

/-- What a Release gives the record, none when the Release is refused (R97, R103). -/
def applyRelease (resource tag reason : Byte) (p : PeerRecord) : Option PeerRecord :=
  if tag = 0#8 ∨ reasonOf reason = none then none
  else
    match resourceOf resource with
    | some .eq => some (if p.eqClaim.map EqClaim.tag = some tag.toNat then { p with eqClaim := none } else p)
    | some .water => some (if p.waterClaim.map WaterClaim.tag = some tag.toNat then { p with waterClaim := none } else p)
    | none => none

/-! ### What CLM is told (R105) -/

/-- The kind of change a notice made to a record's claim (R105). -/
inductive ChangeKind where
  | new
  | changed
  | removed
  | unchanged
deriving DecidableEq, Repr

/-- The kind of change of an EQ claim (R105). -/
def eqChange (before after : Option EqClaim) : ChangeKind :=
  match before, after with
  | none, none => .unchanged
  | none, some _ => .new
  | some _, none => .removed
  | some b, some a =>
      if b.tag ≠ a.tag then .new
      else if b.phase ≠ a.phase ∨ b.share ≠ a.share then .changed
      else .unchanged

/-- The kind of change of a WATER claim (R105). -/
def waterChange (before after : Option WaterClaim) : ChangeKind :=
  match before, after with
  | none, none => .unchanged
  | none, some _ => .new
  | some _, none => .removed
  | some b, some a =>
      if b.tag ≠ a.tag then .new
      else if b.phase ≠ a.phase then .changed
      else .unchanged

end Sys2Proof.Machine
end

