-- ==== Sys2Proof/Machine/Claims.lean ====
section
/-! DEFINITION. CLM on its own machines: making, withdrawing, releasing and dropping claims, back-off, the claim and
hold checks, conflict and rank, the share reduction (chapter 7). What RND does in answer stands in Round.lean. -/

namespace Sys2Proof.Machine

/-- The next value of the tag counter: from 255 back to 1 (R114). -/
def tagAfter (t : Nat) : Nat := if t = 255 then 1 else t + 1

/-- Starting, or restarting, the back-off of a resource at its full value (R130). -/
def startBackOff (r : Resource) (s : State) : State :=
  { s with clm := s.clm.withBackOff r (some (s.now + s.backOffUs)) }

/-- A claim made: the next tag, the frozen snapshot and share, QUEUED (R121, R122). -/
def makeClaim (r : Resource) (snapshot share : Nat) (s : State) : State :=
  let m : ClaimMachine :=
    { state := .queued, tag := s.clm.nextTag, snapshot := snapshot, share := share, reason := .done,
      windowTimer := none, yielding := false }
  { s with clm := { s.clm.withMachine r m with nextTag := tagAfter s.clm.nextTag } }

/-- The five conditions for making an EQ claim (R121). -/
def eqClaimAllowed (s : State) : Bool :=
  decide (s.clm.eq.state = .none) && s.clm.eqBackOff.isNone && !s.cfg.hold &&
    decide (s.cfg.config.rMin + 1 ≤ s.aUnclaimed) &&
    decide (s.committedOthers + minimumShare s.cfg.config ≤ s.cfg.config.eBus)

/-- The four conditions for making a WATER claim (R122). -/
def waterClaimAllowed (s : State) : Bool :=
  decide (s.clm.water.state = .none) && s.clm.waterBackOff.isNone && !s.cfg.hold && !waterOccupied s.ptb

/-- The share an EQ claim freezes (R121). -/
def claimShare (s : State) : Nat := min (requestShare s.cfg.config) (s.cfg.config.eBus - s.committedOthers)

/-- The hold check at the expiry of the contention window (R123). -/
def holdCheck (r : Resource) (s : State) : Bool :=
  match r with
  | .eq =>
      !s.cfg.hold && decide (s.cfg.config.rMin + 1 ≤ s.aUnclaimed) &&
        decide (s.committedOthers + s.clm.eq.share ≤ s.cfg.config.eBus)
  | .water => !s.cfg.hold && !waterOccupied s.ptb

/-- Withdrawal before the hold (R129); a CONTENDING claim withdrawn starts its back-off (R130). -/
def withdraw (r : Resource) (s : State) : State :=
  let m := s.clm.machine r
  match m.state with
  | .queued => s.withMachine r { m with state := .none }
  | .contending =>
      startBackOff r (s.withMachine r { m with state := .releasing, reason := .withdrawn, windowTimer := none })
  | .none => s
  | .held => s
  | .releasing => s

/-- The release reason of a round's outcome (R133). -/
def releaseReason : RoundOutcome → ReleaseReason
  | .complete => .done
  | .timedOut => .done
  | .yielded => .yielded
  | .aborted => .aborted
  | .dry => .aborted
  | .conflict => .aborted

/-- The release of a HELD claim at a round end; without effect when the machine is not HELD (R133). -/
def releaseClaim (r : Resource) (outcome : RoundOutcome) (s : State) : State :=
  let m := s.clm.machine r
  match m.state with
  | .held =>
      s.withMachine r { m with state := .releasing, reason := releaseReason outcome, yielding := false }
  | .none => s
  | .queued => s
  | .contending => s
  | .releasing => s

/-- A machine dropped to NONE (R138). -/
def ClaimMachine.drop (m : ClaimMachine) : ClaimMachine :=
  { m with state := .none, windowTimer := none, yielding := false }

/-- Both claims dropped without any notice, the queue emptied; the back-off timers keep their values (R89, R138). -/
def dropClaims (s : State) : State :=
  { s with clm := { s.clm with eq := s.clm.eq.drop, water := s.clm.water.drop, reportQueued := false,
                               statusQueued := false, history := [], lowRun := 0 } }

/-- The share of a HELD EQ claim set to 0 at the entry to STUCK, with a Status request (R137). -/
def zeroShare (s : State) : State :=
  if s.clm.eq.state = .held then requestStatus { s with clm := { s.clm with eq := { s.clm.eq with share := 0 } } } else s

/-! ### Completed attempts (R118) -/

/-- A completed Claim (R118). -/
def claimCompleted (r : Resource) (tag : Nat) (s : State) : State :=
  let m := s.clm.machine r
  if m.state = .queued ∧ m.tag = tag then
    s.withMachine r { m with state := .contending, windowTimer := some (s.now + secondsUs s.cfg.config.window) }
  else if m.state = .none then
    startBackOff r (s.withMachine r { m with state := .releasing, tag := tag, reason := .withdrawn })
  else s

/-- A completed Release (R118). -/
def releaseCompleted (r : Resource) (tag : Nat) (s : State) : State :=
  let m := s.clm.machine r
  if m.state = .releasing ∧ m.tag = tag then s.withMachine r { m with state := .none } else s

/-! ### Conflict and rank (R125 to R127) -/

/-- An own EQ claim and a peer's conflict (R125). -/
def eqConflict (s : State) (p : PeerRecord) (c : EqClaim) : Bool :=
  let period := s.cfg.config.period
  let a0 := availableUnclaimed period s.ptb + (if s.acc.discharging then 0 else 1) +
    (if p.inReserve period then 1 else 0)
  let cx := committedShare s.ptb - c.share
  decide (a0 < s.cfg.config.rMin + 2) || decide (s.cfg.config.eBus < cx + s.clm.eq.share + c.share)

/-- The phase an own claim ranks with: QUEUED ranks as CONTENDING (R127). -/
def rankPhase : ClaimState → ClaimPhase
  | .held => .held
  | .none => .contending
  | .queued => .contending
  | .contending => .contending
  | .releasing => .contending

/-- A claim outranks another: phase, then snapshot, then the lower address (R127). -/
def outranks (phase : ClaimPhase) (snapshot address : Nat) (phase' : ClaimPhase) (snapshot' address' : Nat) : Bool :=
  match phase, phase' with
  | .held, .contending => true
  | .contending, .held => false
  | _, _ => decide (snapshot' < snapshot) || (snapshot == snapshot' && decide (address < address'))

/-- A machine whose claim is tested against peers' claims (R128). -/
def claimTested : ClaimState → Bool
  | .queued => true
  | .contending => true
  | .held => true
  | .none => false
  | .releasing => false

/-- The own EQ claim loses to the peer's by conflict and rank (R128). -/
def eqLoses (s : State) (p : PeerRecord) (c : EqClaim) : Bool :=
  claimTested s.clm.eq.state && eqConflict s p c &&
    outranks c.phase c.snapshot p.address (rankPhase s.clm.eq.state) s.clm.eq.snapshot s.address

/-- The own WATER claim loses to the peer's: any two conflict (R126, R128). -/
def waterLoses (s : State) (p : PeerRecord) (c : WaterClaim) : Bool :=
  claimTested s.clm.water.state &&
    outranks c.phase c.snapshot p.address (rankPhase s.clm.water.state) s.clm.water.snapshot s.address

/-! ### The share reduction (R136) -/

/-- The history with a current appended, the oldest dropped beyond 60 (R136 step 1). -/
def appendCurrent (history : List Int) (i : Int) : List Int :=
  let h := history ++ [i]
  h.drop (h.length - 60)

/-- The low-current run after a sample set (R136 step 2). -/
def stepLowRun (round : RoundState) (i : Int) (applied lowRun : Nat) : Nat :=
  if round = .equalising then (if 2 * i < applied then min 600 (lowRun + 1) else 0) else 0

/-- The new share, max(1, ceil(I_avg × 5 / 4)) with I_avg = floor(sum / 60) (R136 step 3). -/
def reducedShare (history : List Int) : Nat :=
  max 1 (-((-(history.sum.fdiv 60 * 5)).fdiv 4)).toNat

/-- CLM's steps at a sample set after which the round state is EQUALISING or SOAK, with a usable current (R136). -/
def reduceShare (current : Channel) (s : State) : State :=
  if (s.rnd.round = .equalising ∨ s.rnd.round = .soak) ∧ current.usable then
    let history := appendCurrent s.clm.history current.value
    let lowRun := stepLowRun s.rnd.round current.value s.rnd.applied s.clm.lowRun
    let s' : State := { s with clm := { s.clm with history := history, lowRun := lowRun } }
    if history.length = 60 ∧ (s.rnd.round = .soak ∨ lowRun = 600) ∧ s.clm.eq.state = .held ∧
        reducedShare history < s.clm.eq.share then
      requestStatus
        { s' with clm.eq.share := reducedShare history, rnd.pending := reducedShare history, rnd.pendingValid := true }
    else s'
  else s

end Sys2Proof.Machine
end

