-- ==== Sys2Proof/Machine/Flags.lean ====
section
/-! DEFINITION. The flags and outputs the part shows: the flags of a Status and of a Report, the output pins. -/

namespace Sys2Proof.Machine

/-- The available flag (R140): the string stands on the float bus. -/
def availableFlag : RoundState → Bool
  | .float => true
  | .due => true
  | .claiming => true
  | .prepare => true
  | .rest => true
  | .inhibited => true
  | .waterDue => true
  | .waterClaiming => true
  | .watering => true
  | .transferOut => false
  | .equalising => false
  | .soak => false
  | .transferBack => false
  | .stuck => false

/-- A flag at a bit of a 16-bit word. -/
def flagBit (b : Bool) (i : Nat) : BitVec 16 := if b then 1#16 <<< i else 0#16

/-- The flags of a Status, bits 15 to 6 (R81, R201). -/
def State.statusFlags (s : State) : BitVec 16 :=
  flagBit (availableFlag s.rnd.round) 15 ||| flagBit s.acc.discharging 14 ||| flagBit s.cfg.hold 13 |||
    flagBit s.rnd.inhibit 12 ||| flagBit (s.rnd.round == .stuck) 11 ||| flagBit s.wat.dry 10 |||
    flagBit s.acc.uncertain 9 ||| flagBit s.acc.restarted 8 ||| flagBit s.wat.unexplained 7 |||
    flagBit s.mon.devAlert 6

/-- The latches and account flags of a Report, byte 22 (R200, R201). -/
def State.reportFlags (s : State) : Byte :=
  ((flagBit s.rnd.inhibit 7 ||| flagBit s.wat.dry 6 ||| flagBit s.acc.uncertain 5 ||| flagBit s.acc.restarted 4 |||
    flagBit s.cfg.clamped 3 ||| flagBit s.wat.unexplained 2 ||| flagBit s.acc.forceEq 1 |||
    flagBit s.acc.forceWater 0).extractLsb' 0 8)

/-! ### Output pins -/

/-- RLY is active, the coil energised, for the equalise command (R185). -/
def State.rly (s : State) : Bool := decide (s.rnd.relay = .equalise)

/-- VLV(g+1) is active while the valve is open (R185). -/
def State.vlv (s : State) (g : Fin 8) : Bool := decide (s.wat.valve = some g)

/-- DMD is asserted (R187). -/
def State.dmd (s : State) : Bool := s.rnd.demand || (s.cfg.config.alwaysOn && decide (s.cfg.mode = .run))

/-- ALM is active (R188). -/
def State.alm (s : State) : Bool :=
  decide (s.cfg.mode = .starting) || decide (s.cfg.mode = .monitorOnly) || decide (s.cfg.mode = .isolated) ||
    decide (s.cfg.mode = .silent) || s.rnd.inhibit || decide (s.rnd.round = .stuck) || s.wat.dry

/-- ALM is driven low, by the polarity in force: active low until the configuration read ends (R188). -/
def State.almDrivenLow (s : State) : Bool :=
  if s.cfg.readEnded && s.cfg.config.almActiveHigh then !s.alm else s.alm

/-- LIM is active for the first `duty` counts of each period (R186). -/
def State.lim (s : State) : Bool := decide (s.now - s.fld.pwmStart < s.fld.pwmDuty)

/-- TXD is high, but for the dominant bits of the own attempt (R73, R74). -/
def State.txdHigh (s : State) : Bool :=
  match s.lin.attempt with
  | none => true
  | some a => (a.sentBit s.now).getD true

/-- The first select of the scan link is active while a scan is in progress (R1, R2). -/
def State.firstSelect (s : State) : Bool := s.scn.scanEnds.isSome

/-- The second select of the scan link is active until the configuration read ends (R1, R191). -/
def State.secondSelect (s : State) : Bool := !s.cfg.readEnded

end Sys2Proof.Machine
end

