-- ==== Sys2Proof/Machine/Round.lean ====
section
/-! DEFINITION. RND, the equalising round: its record, the relay and its feedback, entries to the round states, round
end, regulation (chapter 8), with the string temperature and the rest timer of chapter 4. -/

namespace Sys2Proof.Machine

/-! ### The round record (R141) -/

/-- Fixing the outcome and the cause of the open record: the first fixed is the one kept (R141, R165). -/
def fixOutcome (o : RoundOutcome) (c : Option AbortCause) (s : State) : State :=
  { s with rnd.record := s.rnd.record.map fun r =>
      if r.outcome.isNone then { r with outcome := some o, cause := c } else r }

/-- The outcome of the open record; a round ends only with one fixed (log entry 15). -/
def State.roundOutcome (s : State) : RoundOutcome := (s.rnd.record.bind OpenRecord.outcome).getD .aborted

/-- The duration in whole minutes, saturating at 65535 (R141). -/
def minutesSince (openedAt now : Nat) : Nat := min 65535 ((now - openedAt) / secondsUs 60)

/-- The last-round record a closed record becomes (R141). -/
def closeRecord (now : Nat) (r : OpenRecord) : LastRecord :=
  { outcome := r.outcome.getD .aborted, cause := r.cause, minutes := minutesSince r.openedAt now }

/-! ### Entries to the states after a round -/

/-- The entry to INHIBITED, with its Status request (R160). -/
def enterInhibited (s : State) : State := requestStatus { s with rnd.round := .inhibited }

/-- The entry to REST, starting the rest period (R159). -/
def enterRest (s : State) : State :=
  { s with rnd.round := .rest, rnd.restPeriod := some (s.now + s.cfg.config.restHours * hourUs) }

/-- The end of an equalising round (R142). -/
def equaliseEnd (s : State) : State :=
  let outcome := s.roundOutcome
  let closed : State :=
    { s with
      rnd.lastEq := (s.rnd.record.map (closeRecord s.now)).or s.rnd.lastEq
      rnd.record := none
      acc := s.acc.equaliseEnd outcome }
  let released := releaseClaim .eq outcome closed
  let off : State := { released with rnd.demand := false, rnd.applied := 0, rnd.pendingValid := false }
  if off.rnd.inhibit then enterInhibited off
  else if outcome = .complete ∨ outcome = .timedOut then enterRest off
  else { off with rnd.round := .float }

/-- The entry to STUCK: the latch set, the claim's share set to 0 (R157, R161, R137). -/
def enterStuck (s : State) : State :=
  zeroShare { s with rnd.inhibit := true, rnd.round := .stuck, rnd.transferFrom := none, rnd.recoveryCheck := none }

/-! ### Commands of the relay (R143 to R145) -/

/-- Success of a recovery check: a round end, with the latch set first where R150 says so (R145, R150, R157, R161). -/
def recoverySucceeds (latches : Bool) (s : State) : State :=
  equaliseEnd { s with rnd.recoveryCheck := none, rnd.inhibit := s.rnd.inhibit || latches }

/-- Float commanded with a recovery check in place of the current wait: it succeeds at the command when FB already
stands at float (R145). -/
def commandFloatWithCheck (latches : Bool) (s : State) : State :=
  let s : State := { s with rnd.relay := .float, rnd.currentWait := none, rnd.transferFrom := none }
  if s.fbEqualise then
    { s with rnd.recoveryCheck := some { ends := s.now + transferUs, latches := latches } }
  else recoverySucceeds latches s

/-- Float commanded with a transfer window: FB already at float at the command is early, and STUCK follows
(R144, R156, R157). -/
def commandFloatWithWindow (s : State) : State :=
  let s : State := { s with rnd.relay := .float, rnd.currentWait := none }
  if s.fbEqualise then { s with rnd.transferFrom := some s.now } else enterStuck s

/-! ### TRANSFER_BACK -/

/-- What every entry to TRANSFER_BACK sets (R156). -/
def enterTransferBack (s : State) : State :=
  let s := setDuty s 0
  { s with rnd.round := .transferBack, rnd.applied := 0, rnd.pendingValid := false }

/-- The outcome fixed, TRANSFER_BACK entered and the current wait started (R152, R153, R155, R156). -/
def goBack (o : RoundOutcome) (c : Option AbortCause) (s : State) : State :=
  let s := enterTransferBack (fixOutcome o c s)
  { s with rnd.currentWait := some (s.now + currentWaitUs) }

/-! ### PREPARE and TRANSFER_OUT -/

/-- A move out that failed, early or late: ABORTED with cause TRANSFER and a recovery check (R150). -/
def moveOutFails (s : State) : State :=
  commandFloatWithCheck true
    (enterTransferBack (fixOutcome .aborted (some .transfer)
      { s with rnd.transferFrom := none, rnd.deferred := none }))

/-- A move out that succeeded: EQUALISING, or back at once for the deferred cause (R149). -/
def moveOutSucceeds (s : State) : State :=
  let s' : State := { s with rnd.transferFrom := none, rnd.deferred := none }
  match s.rnd.deferred with
  | none => setDuty { s' with rnd.round := .equalising, rnd.elapsed := 0, rnd.bandTimer := 0 } 0
  | some .stop => goBack .aborted (some .stop) s'
  | some .yield => goBack .yielded none s'
  | some .chargerLost => goBack .aborted (some .charger) s'

/-- The entry to TRANSFER_OUT: equalise commanded, the window started; FB already there is early (R144, R149). -/
def enterTransferOut (s : State) : State :=
  let s : State :=
    { s with rnd.round := .transferOut, rnd.chargerWait := none, rnd.relay := .equalise, rnd.deferred := none }
  if s.fbEqualise then moveOutFails s else { s with rnd.transferFrom := some s.now }

/-- The entry to PREPARE when the EQ claim is held (R147, R151); with CRDY active, TRANSFER_OUT follows at once. -/
def enterPrepare (share : Nat) (s : State) : State :=
  let s : State :=
    { s with
      rnd.round := .prepare
      rnd.record := some { kind := .equalise, outcome := none, cause := none, openedAt := s.now }
      rnd.demand := true
      rnd.chargerWait := some (s.now + chargerWaitUs)
      rnd.pending := share
      rnd.pendingValid := true }
  if s.chargerReady then enterTransferOut s else s

/-- A round end out of PREPARE (R148). -/
def prepareEnds (o : RoundOutcome) (c : Option AbortCause) (s : State) : State :=
  equaliseEnd (fixOutcome o c { s with rnd.chargerWait := none })

/-- Noting a deferred cause in TRANSFER_OUT: the first stands (R149). -/
def deferCause (d : DeferredCause) (s : State) : State :=
  { s with rnd.deferred := s.rnd.deferred.or (some d) }

/-! ### Edges of FB and CRDY -/

/-- Whether an edge after the command of a window comes too soon (R144). -/
def edgeEarly (now commandedAt : Nat) : Bool := decide (now - commandedAt < earlyEdgeUs)

/-- The latch set, the string INHIBITED: an uncommanded edge outside a round (R146). -/
def uncommandedOutsideRound (s : State) : State :=
  enterInhibited { s with rnd.inhibit := true, rnd.restPeriod := none }

/-- An FB edge to the equalise position (R144, R146). -/
def fbToEqualise (s : State) : State :=
  match s.rnd.round with
  | .transferOut =>
      match s.rnd.transferFrom with
      | some t => if edgeEarly s.now t then moveOutFails s else moveOutSucceeds s
      | none => s
  | .prepare =>
      commandFloatWithCheck false
        (enterTransferBack (fixOutcome .aborted (some .position)
          { s with rnd.inhibit := true, rnd.chargerWait := none }))
  | .float => uncommandedOutsideRound s
  | .due => uncommandedOutsideRound s
  | .rest => uncommandedOutsideRound s
  | .waterDue => uncommandedOutsideRound s
  | .claiming => uncommandedOutsideRound (withdraw .eq s)
  | .waterClaiming => uncommandedOutsideRound (withdraw .water s)
  | .watering => { s with rnd.inhibit := true }
  | .inhibited => { s with rnd.inhibit := true }
  | .equalising => s
  | .soak => s
  | .transferBack => s
  | .stuck => s

/-- An FB edge to the float position (R144, R145, R146, R157). -/
def fbToFloat (s : State) : State :=
  match s.rnd.round with
  | .equalising =>
      commandFloatWithCheck false
        (enterTransferBack (fixOutcome .aborted (some .position) { s with rnd.inhibit := true }))
  | .soak =>
      commandFloatWithCheck false
        (enterTransferBack (fixOutcome .aborted (some .position) { s with rnd.inhibit := true }))
  | .transferBack =>
      match s.rnd.transferFrom, s.rnd.recoveryCheck with
      | some t, _ =>
          if edgeEarly s.now t then enterStuck s else equaliseEnd { s with rnd.transferFrom := none }
      | none, some c => recoverySucceeds c.latches s
      | none, none =>
          if s.rnd.currentWait.isSome then commandFloatWithCheck false { s with rnd.inhibit := true } else s
  | .float => s
  | .due => s
  | .claiming => s
  | .prepare => s
  | .transferOut => s
  | .rest => s
  | .waterDue => s
  | .waterClaiming => s
  | .watering => s
  | .inhibited => s
  | .stuck => s

/-- A CRDY edge to active: PREPARE passes to TRANSFER_OUT (R148). -/
def chargerBecomesReady (s : State) : State :=
  if s.rnd.round = .prepare then enterTransferOut s else s

/-- A CRDY edge to inactive (R149, R155). -/
def chargerLost (s : State) : State :=
  match s.rnd.round with
  | .equalising => goBack .aborted (some .charger) s
  | .soak => goBack .aborted (some .charger) s
  | .transferOut => deferCause .chargerLost s
  | .float => s
  | .due => s
  | .claiming => s
  | .prepare => s
  | .transferBack => s
  | .rest => s
  | .waterDue => s
  | .waterClaiming => s
  | .watering => s
  | .inhibited => s
  | .stuck => s

/-! ### Expiries of the windows and checks -/

/-- A transfer window passed without the edge: late (R144, R150, R157). -/
def transferLate (s : State) : State :=
  match s.rnd.round with
  | .transferOut => moveOutFails s
  | .transferBack => enterStuck s
  | .float => s
  | .due => s
  | .claiming => s
  | .prepare => s
  | .equalising => s
  | .soak => s
  | .rest => s
  | .waterDue => s
  | .waterClaiming => s
  | .watering => s
  | .inhibited => s
  | .stuck => s

/-! ### Temperature, rest and regulation -/

/-- The string temperature of a sample set, none when unknown (R62). -/
def stringTemperature (pilot ambient : Channel) : Option Int :=
  if pilot.usable then some pilot.value
  else if ambient.usable then some ambient.value
  else none

/-- A known temperature within limits. -/
def temperatureWithin (t : Option Int) (lo hi : Int) : Bool :=
  match t with
  | some v => decide (lo ≤ v) && decide (v ≤ hi)
  | none => false

/-- The temperature test that aborts an equalise: unknown or above 45.0 °C (R148, R152). -/
def temperatureAborts (t : Option Int) : Bool :=
  match t with
  | some v => decide (450 < v)
  | none => true

/-- The cap of the rest timer, rest × 3600 (R63). -/
def restSeconds (c : Configuration) : Nat := c.restHours * 3600

/-- The rest timer at a sample set (R63). -/
def stepRestTimer (c : Configuration) (round : RoundState) (recognised : Bool) (t : Nat) : Nat :=
  if recognised then 0
  else if offFloat round then 0
  else min (restSeconds c) (t + 1)

/-- The normal regulator step: the error over 4, truncated toward zero, clamped to −32..32 (R154). -/
def regulatorStep (applied : Nat) (i : Int) : Int :=
  max (-32) (min 32 (((applied : Int) - i).tdiv 4))

/-- The duty after one regulator step (R154). -/
def nextDuty (foldBack : Bool) (applied : Nat) (i : Int) (duty : Nat) : Nat :=
  if foldBack then duty - duty / 8
  else (max 0 (min 1023 ((duty : Int) + regulatorStep applied i))).toNat

/-- Applying the pending share (R151). -/
def applyPending (s : State) : State :=
  if s.rnd.pendingValid then { s with rnd.applied := s.rnd.pending, rnd.pendingValid := false } else s

/-- The regulator step of a sample set (R154). -/
def regulate (s : State) : State :=
  setDuty s (nextDuty s.mon.foldBack s.rnd.applied s.scn.current.value s.rnd.duty)

/-- Elapsed time, band timer and the switch between EQUALISING and SOAK (R153, steps 1 and 2). -/
def stepBand (s : State) : State :=
  { s with
    rnd.elapsed := min 86400 (s.rnd.elapsed + 1)
    rnd.bandTimer := if s.mon.band then min 86400 (s.rnd.bandTimer + 1) else 0
    rnd.round := if s.mon.band then .soak else .equalising }

/-- The end test of a round: COMPLETE, else TIMED_OUT, else none (R153 step 3). -/
def endTest (s : State) : Option RoundOutcome :=
  let c := s.cfg.config
  if c.holdMinutes * 60 ≤ s.rnd.bandTimer ∧ c.minHours * 3600 ≤ s.rnd.elapsed then some .complete
  else if c.maxHours * 3600 ≤ s.rnd.elapsed then some .timedOut
  else none

/-- RND at a sample set delivered in EQUALISING or SOAK (R152). -/
def equaliseSample (s : State) : State :=
  if !s.scn.current.usable then goBack .aborted (some .currentStale) s
  else if temperatureAborts s.rnd.temperature then goBack .aborted (some .temperature) s
  else
    let s := stepBand s
    match endTest s with
    | some o => goBack o none s
    | none => regulate (applyPending s)

/-- RND at a sample set delivered in PREPARE (R148). -/
def prepareSample (s : State) : State :=
  if !s.scn.current.usable then prepareEnds .aborted (some .currentStale) s
  else if temperatureAborts s.rnd.temperature then prepareEnds .aborted (some .temperature) s
  else s

/-- RND at a sample set delivered in TRANSFER_BACK: a usable current of at most 10 ends the current wait (R156). -/
def backSample (s : State) : State :=
  if s.rnd.currentWait.isSome && s.scn.current.usable && decide (s.scn.current.value ≤ 10) then
    commandFloatWithWindow s
  else s

end Sys2Proof.Machine
end

