-- ==== Sys2Proof/Machine/Watering.lean ====
section
/-! DEFINITION. RND, the watering round: the plan, the dose pulses, the judgement of flow, the round end and the
carried deficits (chapter 9). -/

namespace Sys2Proof.Machine

/-! ### Round end -/

/-- The carried value of a group after a round end (R177). -/
def carriedAfter (inPlan : Bool) (r : GroupRecord) : Nat :=
  if inPlan then min 999999 (r.target - r.dosed * 1000)
  else
    match r.outcome with
    | .full => 0
    | .alreadyFull => 0
    | .capped => 0
    | .dosed => 0
    | .none => min 999999 r.target
    | .notReached => min 999999 (r.target - r.dosed * 1000)

/-- A group record after a round end (R177). -/
def groupAfterRound (inPlan : Bool) (r : GroupRecord) : GroupRecord :=
  { r with carried := carriedAfter inPlan r, outcome := if inPlan then .notReached else r.outcome }

/-- The group records after a round end: the enabled ones (R177). -/
def groupsAfterRound (groupCount : Nat) (plan : List (Fin 8)) (groups : List GroupRecord) : List GroupRecord :=
  groups.mapIdx fun i r =>
    if i < groupCount then groupAfterRound (plan.any fun g => g.val == i) r else r

/-- Closing the open valve: the drain grace starts (R169, R176); without effect when none is open. -/
def closeValveAtEnd (s : State) : State :=
  if s.wat.valve.isSome then { s with wat.valve := none, wat.drainGrace := some (s.now + drainGraceUs) } else s

/-- The end of a watering round with an outcome and a cause (R176). The pulse's timers stop, but for the drain grace,
which goes on counting its flow to no group (R170, log entry 16). -/
def wateringEnds (o : RoundOutcome) (c : Option AbortCause) (s : State) : State :=
  let s := closeValveAtEnd (fixOutcome o c s)
  let outcome := s.roundOutcome
  let closed : State :=
    { s with
      wat.groups := groupsAfterRound s.cfg.config.groupCount s.wat.plan s.wat.groups
      wat.plan := []
      wat.openPeriod := none
      wat.earlyLimit := none
      wat.flowWindow := none
      wat.offTime := none
      wat.closedPeriod := false
      wat.roundLimit := none
      rnd.lastWater := (s.rnd.record.map (closeRecord s.now)).or s.rnd.lastWater
      rnd.record := none
      acc := s.acc.wateringEnd }
  let released := releaseClaim .water outcome closed
  if released.rnd.inhibit then enterInhibited released else { released with rnd.round := .float }

/-- A watering round that ends CONFLICT, setting the inhibit latch (R175). -/
def wateringConflict (s : State) : State :=
  wateringEnds .conflict none { s with rnd.inhibit := true }

/-- A watering round that ends DRY, setting the dry latch and its timer (R175, R178). -/
def wateringDry (s : State) : State :=
  wateringEnds .dry none { s with wat.dry := true, wat.dryTimer := some (s.now + dryLatchUs) }

/-! ### The plan -/

/-- The round fields of a group at the plan (R167). -/
def planGroup (deficit cells : Nat) (r : GroupRecord) : GroupRecord :=
  let target := cells * deficit + r.carried
  { r with target := target, cap := target * 3 / 2, dosed := 0, outcome := .none }

/-- The group records with their round fields set afresh, the enabled ones (R164, R167). -/
def planGroups (c : Configuration) (deficit : Nat) (groups : List GroupRecord) : List GroupRecord :=
  groups.mapIdx fun i r => if i < c.groupCount then planGroup deficit (c.cells.getD i 0) r else r

/-- Inserting a group into a list ordered by descending target; among equal targets the one inserted goes first
(R167). -/
def insertGroup (target : Fin 8 → Nat) (g : Fin 8) : List (Fin 8) → List (Fin 8)
  | [] => [g]
  | h :: rest => if target h ≤ target g then g :: h :: rest else h :: insertGroup target g rest

/-- The group list of a plan: the enabled groups whose target is at least one flow pulse, by descending target,
the lower number first between equals (R167). -/
def planList (c : Configuration) (groups : List GroupRecord) : List (Fin 8) :=
  let target : Fin 8 → Nat := fun g => (groups.getD g.val resetGroup).target
  ((List.finRange 8).filter fun g => groupEnabled c g && decide (1000 * c.vFlow ≤ target g)).foldr
    (insertGroup target) []

/-! ### Dose pulses -/

/-- Opening a dose pulse of a group: the valve and the three timers (R169). -/
def openPulse (g : Fin 8) (s : State) : State :=
  { s with
    wat.valve := some g
    wat.openPeriod := some (s.now + secondsUs s.cfg.config.onSeconds)
    wat.earlyLimit := some (s.now + earlyFlowUs)
    wat.flowWindow := some (s.now + flowWindowUs)
    wat.offTime := none
    wat.drainGrace := none
    wat.closedPeriod := false
    wat.closedEarly := false }

/-- Closing the valve of a dose pulse: the drain grace and the closed period start (R169). -/
def closePulse (s : State) : State :=
  { s with
    wat.valve := none
    wat.openPeriod := none
    wat.drainGrace := some (s.now + drainGraceUs)
    wat.offTime := some (s.now + secondsUs s.cfg.config.offSeconds)
    wat.closedPeriod := true }

/-- Starting the group at the head of a list: groups whose probe reads wet are ALREADY_FULL and passed over; with none
left the round ends COMPLETE (R168). -/
def startGroups : List (Fin 8) → State → State
  | [], s => wateringEnds .complete none { s with wat.plan := [] }
  | g :: rest, s =>
      if s.probeWet g then startGroups rest (s.withGroup g { s.group g with outcome := .alreadyFull })
      else openPulse g { s with wat.plan := g :: rest }

/-- The entry to WATERING when the WATER claim is held (R165, R166). -/
def enterWatering (s : State) : State :=
  let groups := planGroups s.cfg.config s.acc.deficit s.wat.groups
  let s' : State :=
    { s with
      rnd.round := .watering
      rnd.record := some { kind := .watering, outcome := none, cause := none, openedAt := s.now }
      wat.unexplained := false
      wat.roundLimit := some (s.now + roundLimitUs)
      wat.noFlow := 0
      wat.groups := groups }
  startGroups (planList s.cfg.config groups) s'

/-- How the head group's dose ends at the end of a closed period, none when another pulse opens (R173). -/
def decideGroup (s : State) (g : Fin 8) : Option GroupOutcome :=
  let r := s.group g
  if s.probeWet g then some .full
  else if r.cap ≤ r.dosed * 1000 then some .capped
  else if !s.probeEnabled g && decide (r.target ≤ r.dosed * 1000) then some .dosed
  else none

/-- The decision at the end of a closed period (R173). -/
def closedPeriodEnds (s : State) : State :=
  match s.wat.plan with
  | [] => { s with wat.closedPeriod := false }
  | g :: rest =>
      match decideGroup s g with
      | some o => startGroups rest (s.withGroup g { s.group g with outcome := o })
      | none => openPulse g s

/-- The closed period ends once the off time has passed, the drain grace has ended and the flow window is judged
(R169). -/
def checkClosedPeriod (s : State) : State :=
  if s.wat.closedPeriod && s.wat.offTime.isNone && s.wat.drainGrace.isNone && s.wat.flowWindow.isNone then
    closedPeriodEnds s
  else s

/-! ### Flow -/

/-- A flow pulse counted to the head group, saturating at 65535 mL (R164, R170). -/
def countFlow (g : Fin 8) (s : State) : State :=
  s.withGroup g { s.group g with dosed := min 65535 ((s.group g).dosed + s.cfg.config.vFlow) }

/-- Whether the group's dosed volume closes its open valve (R172). -/
def doseReached (s : State) (g : Fin 8) : Bool :=
  decide ((s.group g).cap ≤ (s.group g).dosed * 1000) ||
    (!s.probeEnabled g && decide ((s.group g).target ≤ (s.group g).dosed * 1000))

/-- The open valve closed where the dosed volume has reached its limit (R172). -/
def closeIfReached (g : Fin 8) (s : State) : State :=
  if s.wat.valve.isSome && doseReached s g then closePulse s else s

/-- The first flow pulse comes less than 200 ms after the opening (R171). -/
def flowTooEarly (s : State) : Bool :=
  s.wat.flowWindow.isSome && (match s.wat.earlyLimit with | some d => decide (s.now < d) | none => false)

/-- A flow pulse of the head group's dose pulse (R170, R171, R172): counted; the first one is judged. -/
def flowInDose (g : Fin 8) (s : State) : State :=
  let counted := countFlow g s
  if flowTooEarly s then wateringConflict counted
  else
    let judged : State :=
      if s.wat.flowWindow.isSome then { counted with wat.flowWindow := none, wat.noFlow := 0 } else counted
    checkClosedPeriod (closeIfReached g judged)

/-- A flow pulse that belongs to no dose pulse, after STARTING (R174). -/
def flowOutsideDose (s : State) : State :=
  match s.clm.water.state with
  | .held => if s.rnd.round = .watering then wateringConflict s else s
  | .none =>
      if s.cfg.mode = .starting ∨ waterOccupied s.ptb then s else { s with wat.unexplained := true }
  | .queued => s
  | .contending => s
  | .releasing => s

/-- A flow pulse (R170, R174): it belongs to a pulse while the valve is open or the drain grace runs; after a round end
it is counted to no group. DESIGN CHOICE, unsafe: where the end of the grace, taken first, has opened the next pulse at the
same moment, the flow pulse is early flow of that new pulse and not flow outside a dose (log entry 28). -/
def flowPulse (s : State) : State :=
  if s.wat.valve.isSome ∨ s.wat.drainGrace.isSome then
    if s.rnd.round = .watering then
      match s.wat.plan with
      | g :: _ => flowInDose g s
      | [] => s
    else s
  else flowOutsideDose s

/-- The expiry of the flow window without flow (R171): a short pulse, or a no-flow pulse, the second of which ends the
round DRY. -/
def flowWindowPasses (s : State) : State :=
  let s : State := { s with wat.flowWindow := none }
  if s.wat.closedEarly then checkClosedPeriod s
  else
    let s : State := { s with wat.noFlow := s.wat.noFlow + 1 }
    if 2 ≤ s.wat.noFlow then wateringDry s else checkClosedPeriod s

/-- A probe edge to wet closes the group's open valve, the splash guard (R172). -/
def probeToWet (g : Fin 8) (s : State) : State :=
  if s.wat.valve = some g then closePulse { s with wat.closedEarly := s.wat.flowWindow.isSome } else s

end Sys2Proof.Machine
end

