-- ==== Sys2Proof/Machine/Contention.lean ====
section
/-! DEFINITION. CLM and RND together: the hold, the loss and the yield of a claim, the hold of a panel, STOP, and the
update from the peer table (sections 7.5 to 7.10). -/

namespace Sys2Proof.Machine

/-- The round state a string returns to when its claim of a resource is lost or withdrawn for the hold
(R124, R128, R134). -/
def backToDue (r : Resource) (s : State) : State :=
  match r, s.rnd.round with
  | .eq, .claiming => { s with rnd.round := .due }
  | .water, .waterClaiming => { s with rnd.round := .waterDue }
  | _, _ => s

/-- A claim that passed its hold check: HELD, and RND told (R123, R147, R166, R136). -/
def claimHeld (r : Resource) (s : State) : State :=
  let m := s.clm.machine r
  let s := s.withMachine r { m with state := .held, windowTimer := none, yielding := false }
  match r with
  | .eq => enterPrepare m.share { s with clm.history := [], clm.lowRun := 0 }
  | .water => enterWatering s

/-- The expiry of a contention window: the hold check, then HELD or withdrawn (R123, R124). -/
def windowExpires (r : Resource) (s : State) : State :=
  if holdCheck r s then claimHeld r s else backToDue r (withdraw r s)

/-! ### Loss and yield (R128, R131) -/

/-- RND at a yield (R131). -/
def rndYield (s : State) : State :=
  match s.rnd.round with
  | .prepare => prepareEnds .yielded none s
  | .equalising => goBack .yielded none s
  | .soak => goBack .yielded none s
  | .transferOut => deferCause .yield s
  | .watering => wateringEnds .yielded none s
  | .float => s
  | .due => s
  | .claiming => s
  | .transferBack => s
  | .rest => s
  | .waterDue => s
  | .waterClaiming => s
  | .inhibited => s
  | .stuck => s

/-- An own claim outranked by a conflicting one: lost while QUEUED or CONTENDING, yielding while HELD (R128, R131). -/
def claimOutranked (r : Resource) (s : State) : State :=
  let m := s.clm.machine r
  match m.state with
  | .queued => backToDue r (startBackOff r (withdraw r s))
  | .contending => backToDue r (withdraw r s)
  | .held => if m.yielding then s else rndYield (s.withMachine r { m with yielding := true })
  | .none => s
  | .releasing => s

/-- A change kind that causes a conflict test (R128). -/
def ChangeKind.tests : ChangeKind → Bool
  | .new => true
  | .changed => true
  | .removed => false
  | .unchanged => false

/-- CLM's test of the EQ claim of an updated record (R128). -/
def testEqUpdate (before after : PeerRecord) (s : State) : State :=
  match after.eqClaim with
  | some c =>
      if (eqChange before.eqClaim after.eqClaim).tests && eqLoses s after c then claimOutranked .eq s else s
  | none => s

/-- CLM's test of the WATER claim of an updated record (R128). -/
def testWaterUpdate (before after : PeerRecord) (s : State) : State :=
  match after.waterClaim with
  | some c =>
      if (waterChange before.waterClaim after.waterClaim).tests && waterLoses s after c then claimOutranked .water s
      else s
  | none => s

/-- The peer table with an updated record, and CLM's update from it (R105, R128). -/
def peerUpdated (before after : PeerRecord) (s : State) : State :=
  testWaterUpdate before after (testEqUpdate before after { s with ptb := putPeer after s.ptb })

/-! ### Hold and STOP (R134, R135) -/

/-- One machine at the start of a hold (R134). -/
def holdMachine (r : Resource) (s : State) : State :=
  match (s.clm.machine r).state with
  | .queued => backToDue r (withdraw r s)
  | .contending => backToDue r (withdraw r s)
  | .none => s
  | .held => s
  | .releasing => s

/-- CLM and RND at the start of a hold (R134). -/
def holdStarts (s : State) : State := holdMachine .water (holdMachine .eq s)

/-- A STOP that meets a string claiming a resource: the claim withdrawn, the back-off started, FLOAT (R135). -/
def stopClaim (r : Resource) (s : State) : State :=
  match (s.clm.machine r).state with
  | .queued => { startBackOff r (withdraw r s) with rnd.round := .float }
  | .contending => { startBackOff r (withdraw r s) with rnd.round := .float }
  | .none => s
  | .held => s
  | .releasing => s

/-- CLM and RND at a STOP (R135, R148, R149, R155, R175). -/
def stopActs (s : State) : State :=
  match s.rnd.round with
  | .due => startBackOff .eq { s with rnd.round := .float }
  | .waterDue => startBackOff .water { s with rnd.round := .float }
  | .claiming => stopClaim .eq s
  | .waterClaiming => stopClaim .water s
  | .prepare => if s.clm.eq.state = .held then prepareEnds .aborted (some .stop) s else s
  | .equalising => if s.clm.eq.state = .held then goBack .aborted (some .stop) s else s
  | .soak => if s.clm.eq.state = .held then goBack .aborted (some .stop) s else s
  | .transferOut => if s.clm.eq.state = .held then deferCause .stop s else s
  | .watering => if s.clm.water.state = .held then wateringEnds .aborted (some .stop) s else s
  | .float => s
  | .transferBack => s
  | .rest => s
  | .inhibited => s
  | .stuck => s

/-! ### Leaving RUN (R71, R158, R175) -/

/-- RND at a change of the node mode to ISOLATED or SILENT, before CLM drops the claims (R71, R158, R175). -/
def roundLeavesLine (cause : AbortCause) (s : State) : State :=
  match s.rnd.round with
  | .due => { s with rnd.round := .float }
  | .waterDue => { s with rnd.round := .float }
  | .claiming => { s with rnd.round := .float }
  | .waterClaiming => { s with rnd.round := .float }
  | .prepare => prepareEnds .aborted (some cause) s
  | .transferOut =>
      commandFloatWithCheck false
        (enterTransferBack (fixOutcome .aborted (some cause) { s with rnd.deferred := none }))
  | .equalising => commandFloatWithWindow (enterTransferBack (fixOutcome .aborted (some cause) s))
  | .soak => commandFloatWithWindow (enterTransferBack (fixOutcome .aborted (some cause) s))
  | .transferBack => if s.rnd.currentWait.isSome then commandFloatWithWindow s else s
  | .watering => wateringEnds .aborted (some cause) s
  | .float => s
  | .rest => s
  | .inhibited => s
  | .stuck => s

/-- The entry to ISOLATED or SILENT at a line fault or a clash, in the order of R89 (R89, R92). -/
def leaveLine (mode : NodeMode) (cause : AbortCause) (s : State) : State :=
  let quiet : State :=
    { s with
      cfg.mode := mode
      cfg.joiningTimer := none
      clm.statusTimer := none
      lin.attempt := none
      lin.recovering := false
      lin.isolationTimer := none }
  let dropped := dropClaims (roundLeavesLine cause quiet)
  { dropped with
    lin.retry := 0
    lin.isolationTimer := if mode = .isolated then some (s.now + isolationUs) else none }

/-- The line fault: the entry to ISOLATED (R89). -/
def lineFault (s : State) : State := leaveLine .isolated .line s

/-- The address clash: the entry to SILENT (R80, R92). -/
def addressClash (s : State) : State := leaveLine .silent .clash s

end Sys2Proof.Machine
end

