-- ==== Sys2Proof/Machine/Fields.lean ====
section
/-! DEFINITION. FLD: the conditioning of the inputs and the PWM period (chapter 10). -/

namespace Sys2Proof.Machine

/-- An edge of a level input, handed to RND: true is to active (R182). -/
def levelEdge (i : LevelInput) (toActive : Bool) (s : State) : State :=
  match i, toActive with
  | .fb, true => fbToEqualise s
  | .fb, false => fbToFloat s
  | .crdy, true => chargerBecomesReady s
  | .crdy, false => chargerLost s
  | .prb g, true => probeToWet g s
  | .prb _, false => s

/-- The pin of a level input changes: the stability timer restarts, once conditioning has begun and for an enabled input
(R180, R181). -/
def changePin (i : LevelInput) (high : Bool) (s : State) : State :=
  let l := s.fld.line i
  let restarted : LevelLine :=
    { l with
      pinHigh := high
      timer := if s.cfg.readEnded && inputEnabled s.cfg.config i && (l.pinHigh != high) then some (s.now + stabilityUs)
        else l.timer }
  { s with fld := s.fld.withLine i restarted }

/-- The raw level has stood for 20 ms: the debounced level follows it, with an edge when it differs (R181, R182). -/
def levelStands (i : LevelInput) (s : State) : State :=
  let l := s.fld.line i
  let raw := rawActive s.cfg.config i l
  let settled : State := { s with fld := s.fld.withLine i { l with active := raw, timer := none } }
  if raw = l.active then settled else levelEdge i raw settled

/-! ### FLOW (R183) -/

/-- The pulse state and the 2 ms timer after the raw level of FLOW goes active, or inactive (R183). -/
def flowRawChange (active : Bool) (now : Nat) (st : FlowState) (timer : Option Nat) : FlowState × Option Nat :=
  match st, active with
  | .armed, true => (.qualifying, some (now + flowTimerUs))
  | .qualifying, false => (.armed, none)
  | .spent, false => (.rearming, some (now + flowTimerUs))
  | .rearming, true => (.spent, none)
  | .armed, false => (.armed, timer)
  | .qualifying, true => (.qualifying, timer)
  | .spent, true => (.spent, timer)
  | .rearming, false => (.rearming, timer)

/-- The FLOW pin changes: the pulse state follows the raw level, once conditioning has begun and when FLOW is enabled
(R180, R183). -/
def changeFlowPin (high : Bool) (s : State) : State :=
  let after :=
    if s.cfg.readEnded && s.cfg.config.flowEnable && (s.fld.flowPinHigh != high) then
      flowRawChange (xor high s.cfg.config.flowInvert) s.now s.fld.flow s.fld.flowTimer
    else (s.fld.flow, s.fld.flowTimer)
  { s with fld.flowPinHigh := high, fld.flow := after.1, fld.flowTimer := after.2 }

/-- The 2 ms timer expires: a flow pulse out of QUALIFYING, ARMED out of REARMING (R183). -/
def flowTimerEnds (s : State) : State :=
  let s : State := { s with fld.flowTimer := none }
  match s.fld.flow with
  | .qualifying => flowPulse { s with fld.flow := .spent }
  | .rearming => { s with fld.flow := .armed }
  | .armed => s
  | .spent => s

/-! ### The PWM period (R186) -/

/-- The start of the next period: 1024 µs after the period under way began; when that is already past by a whole period or
more, the latest such start (R186, log entry 19). -/
def nextPwmStart (start now : Nat) : Nat :=
  start + pwmPeriodUs * max 1 ((now - start) / pwmPeriodUs)

/-! ### The commands -/

/-- RAW_LEVEL_CHANGE (R181). -/
def execRawLevelChange (after : Nat) (input : LevelInput) (high : Bool) (s : State) :
    Host.Outcome State Fault Refusal :=
  .next (changePin input high (s.elapse after))

/-- STABILITY_TIMER_EXPIRY (R181, R182). -/
def execStabilityTimerExpiry (input : LevelInput) (s : State) : Host.Outcome State Fault Refusal :=
  match (s.fld.line input).timer with
  | some d => .next (levelStands input (s.reach d))
  | none => .next s

/-- FLOW_EDGE (R183). -/
def execFlowEdge (after : Nat) (high : Bool) (s : State) : Host.Outcome State Fault Refusal :=
  .next (changeFlowPin high (s.elapse after))

/-- FLOW_TIMER_EXPIRY (R183). -/
def execFlowTimerExpiry (s : State) : Host.Outcome State Fault Refusal :=
  match s.fld.flowTimer with
  | some d => .next (flowTimerEnds (s.reach d))
  | none => .next s

/-- PWM_PERIOD_START (R186): the next period works with the duty as it stands. -/
def execPwmPeriodStart (s : State) : Host.Outcome State Fault Refusal :=
  let start := nextPwmStart s.fld.pwmStart s.now
  .next { s.reach start with fld.pwmStart := start, fld.pwmDuty := s.rnd.duty }

end Sys2Proof.Machine
end

