-- ==== Sys2Proof/Machine/Line.lean ====
section
/-! DEFINITION. LIN and CLM on the site line: building notices, attempts, retries, recovery, the receive assembler, and
the commands of the line and of the claim timers (chapters 5 and 7). -/

namespace Sys2Proof.Machine

/-! ### Building the notices (R81, R83, R200, R201) -/

/-- The phase a claim shows in the own Status, none when it gives no part (R81, R113). -/
def shownPhase : ClaimState → Option ClaimPhase
  | .contending => some .contending
  | .held => some .held
  | .none => none
  | .queued => none
  | .releasing => none

/-- The EQ part of the own Status (R81). -/
def ownEqPart (m : ClaimMachine) : Option EqPart :=
  (shownPhase m.state).map fun ph =>
    { tag := byteOf m.tag, phase := phaseCode ph, share := m.share, snapshot := m.snapshot }

/-- The WATER part of the own Status (R81). -/
def ownWaterPart (m : ClaimMachine) : Option WaterPart :=
  (shownPhase m.state).map fun ph => { tag := byteOf m.tag, phase := phaseCode ph, snapshot := m.snapshot }

/-- The own Status as things stand; the recovery Status has mode JOINING and no claim part (R81, R83, R91). -/
def ownStatus (s : State) : StatusBody :=
  { mode := if s.lin.recovering then 1#8 else byteOf (modeCode s.cfg.mode)
    round := byteOf (roundCode s.rnd.round)
    flags := s.statusFlags
    score := s.acc.presentedScore
    urgency := s.acc.urgency
    eqPart := if s.lin.recovering then none else ownEqPart s.clm.eq
    waterPart := if s.lin.recovering then none else ownWaterPart s.clm.water }

/-- The outcome and cause byte of a last-round record; an empty record is 0 (R200, R201). -/
def recordByteOf (r : Option LastRecord) : Byte :=
  match r with
  | some l => byteOf (outcomeCode l.outcome * 16 + causeCode l.cause)
  | none => 0#8

/-- The duration of a last-round record; 0 for an empty one (R200). -/
def recordMinutes (r : Option LastRecord) : Nat := (r.map LastRecord.minutes).getD 0

/-- The 24-byte account snapshot of a Report (R200, R201). -/
def ownReport (s : State) : List Byte :=
  be24 (reportedCharge s.acc.charge) ++ be24 (reportedCharge s.acc.discharged) ++ be16 (s.acc.deficit / 1000) ++
    be16 s.acc.hours ++ be16 s.acc.tt ++ be16 s.acc.tq ++ be16 s.acc.ts ++
    [recordByteOf s.rnd.lastEq] ++ be16 (recordMinutes s.rnd.lastEq) ++
    [recordByteOf s.rnd.lastWater] ++ be16 (recordMinutes s.rnd.lastWater) ++
    [s.reportFlags, byteOf s.scn.staleCount]

/-- The notice an attempt carries, built as things stand (R81, R83). -/
def buildNotice (s : State) : NoticeKey → Notice
  | .release r tag => .release s.address (resourceCode r) (byteOf tag) (reasonCode (s.clm.machine r).reason)
  | .claim r tag =>
      .claim s.address (resourceCode r) (byteOf tag) (s.clm.machine r).snapshot
        (match r with | .eq => s.clm.eq.share | .water => 0)
  | .report => .report s.address (ownReport s)
  | .status => .status s.address (ownStatus s)
  | .recovery => .status s.address (ownStatus s)

/-! ### Attempts -/

/-- The start of an attempt carrying a notice: the retry count goes on only for the notice of the previous attempt
(R83, R88); the assembler takes the start bit, unless that bit fails (R76, log entry 7). -/
def beginAttempt (k : NoticeKey) (s : State) : State :=
  { s with
    lin.attempt := some { notice := k, frame := noticeFrame (buildNotice s k), start := s.now }
    lin.retry := if s.lin.lastNotice = some k then s.lin.retry else 0
    lin.lastNotice := some k
    lin.idle := .counting s.now
    lin.assembler := if s.lin.assembler = .ready then .frame else s.lin.assembler }

/-- The end of an attempt, whatever its outcome: the idle timer at 0 (R75). -/
def endAttempt (s : State) : State := { s with lin.attempt := none, lin.idle := .counting s.now }

/-- The receive assembler after a header's start bit that sampled recessive: it has begun no byte at it, and is READY as
before it (R74, R76). -/
def Assembler.withoutStartBit : Assembler → Assembler
  | .hunt => .hunt
  | .ready => .ready
  | .frame => .ready

/-- The end of an attempt on a bit error (R86): at the first bit no start bit stood on the line (R74, R76). -/
def failAttempt (a : Attempt) (s : State) : State :=
  { endAttempt s with
    lin.assembler := if a.bitIndex s.now = 0 then s.lin.assembler.withoutStartBit else s.lin.assembler }

/-- A recovery that failed: the isolation timer starts again (R91, log entry 17). -/
def recoveryFails (s : State) : State :=
  { s with lin.recovering := false, lin.retry := 0, lin.isolationTimer := some (s.now + isolationUs) }

/-- One more on the retry count; the eighth is a line fault, and one failure ends a recovery (R88, R89, R91). -/
def countRetry (s : State) : State :=
  if s.lin.recovering then recoveryFails s
  else if 8 ≤ s.lin.retry + 1 then lineFault s
  else { s with lin.retry := s.lin.retry + 1 }

/-- The Status period timer started (R117). -/
def startStatusTimer (s : State) : State := { s with clm.statusTimer := some (s.now + s.statusOffsetUs) }

/-- The entry to JOINING: the joining timer of 2P + 1 seconds and the Status period timer (R117, R195). -/
def enterJoining (s : State) : State :=
  startStatusTimer
    { s with
      cfg.mode := .joining
      cfg.joiningTimer := some (s.now + secondsUs (2 * s.cfg.config.period + 1)) }

/-- What a completed attempt does for its notice (R87, R91, R118). -/
def noticeSent (k : NoticeKey) (s : State) : State :=
  match k with
  | .release r tag => releaseCompleted r tag s
  | .claim r tag => claimCompleted r tag s
  | .report => { s with clm.reportQueued := false }
  | .status => { s with clm.statusQueued := false }
  | .recovery => enterJoining { s with lin.recovering := false, lin.isolationTimer := none }

/-! ### Receiving (R76 to R80) -/

/-- The assembler goes to HUNT with the idle timer at 0: a frame is complete, or a dominant level breaks one off
(R75, R76). -/
def frameEnds (s : State) : State := { s with lin.assembler := .hunt, lin.idle := .counting s.now }

/-- The bytes of a frame heard on the line, handed on as a notice when they make a valid one that is not a clash
(R76 to R80). In STARTING nothing is received; in HUNT the bytes are ignored, and the line has been recessive since the
last dominant bit among them (R75, log entry 6); an own-address notice is
handed to no reader, and outside SILENT it is a clash. -/
def hearFrame (frame : List Byte) (reader : Notice → State → State) (s : State) : State :=
  if s.cfg.mode = .starting then s
  else if s.lin.assembler = .hunt then { s with lin.idle := idleAfter (frameBits frame) s.now }
  else
    let s := frameEnds s
    match decodeNotice s.cfg.config.nSite frame with
    | none => s
    | some n =>
        if n.source = s.address then (if s.cfg.mode = .silent then s else addressClash s)
        else reader n s

/-! ### Readers of notices in PTB (R97 to R105) -/

/-- A Status (R97 to R101, R105). -/
def readStatus (n : Notice) (s : State) : State :=
  match n with
  | .status source b =>
      let before := renewedPeer s.ptb source
      match applyStatus b before with
      | some after => peerUpdated before after s
      | none => s
  | .directive _ _ _ => s
  | .release _ _ _ _ => s
  | .claim _ _ _ _ _ => s
  | .report _ _ => s

/-- A Claim (R97 to R99, R102, R105). -/
def readClaim (n : Notice) (s : State) : State :=
  match n with
  | .claim source resource tag snapshot share =>
      let before := renewedPeer s.ptb source
      match applyClaim resource tag snapshot share before with
      | some after => peerUpdated before after s
      | none => s
  | .directive _ _ _ => s
  | .release _ _ _ _ => s
  | .status _ _ => s
  | .report _ _ => s

/-- A Release (R97 to R99, R103, R105). -/
def readRelease (n : Notice) (s : State) : State :=
  match n with
  | .release source resource tag reason =>
      let before := renewedPeer s.ptb source
      match applyRelease resource tag reason before with
      | some after => peerUpdated before after s
      | none => s
  | .directive _ _ _ => s
  | .claim _ _ _ _ _ => s
  | .status _ _ => s
  | .report _ _ => s

/-- A Report (R98, R99, R104): the record renewed or created, nothing handed to CLM. -/
def readReport (n : Notice) (s : State) : State :=
  match n with
  | .report source _ => { s with ptb := putPeer (renewedPeer s.ptb source) s.ptb }
  | .directive _ _ _ => s
  | .release _ _ _ _ => s
  | .claim _ _ _ _ _ => s
  | .status _ _ => s

/-! ### The commands of the line -/

/-- LINE_IDLE (R75, R76): the idle timer at 12, the assembler READY; a partial frame is discarded. Without effect
before 12 bit times of recessive line, in STARTING and inside an own attempt (log entries 3 and 18). -/
def execLineIdle (after : Nat) (s : State) : Host.Outcome State Fault Refusal :=
  let s := s.elapse after
  if s.cfg.mode = .starting ∨ s.lin.attempt.isSome ∨ s.lin.idle.canFill s.now = false then .next s
  else .next { s with lin.idle := .full s.now, lin.assembler := .ready }

/-- BREAK (R75, R76): the line is dominant, and a frame being assembled is discarded. -/
def execLineBreak (after : Nat) (s : State) : Host.Outcome State Fault Refusal :=
  .next (frameEnds (s.elapse after))

/-- DOMINANT_COUNT (R88): 20 bit times of dominant line count against the waiting notice. -/
def execDominantCount (after : Nat) (s : State) : Host.Outcome State Fault Refusal :=
  let s : State := { s.elapse after with lin.idle := .counting (s.now + after) }
  if s.engine = .waiting then .next (countRetry s) else .next s

/-- ATTEMPT_START (R82, R83, R84, R91): at an idle line, which is an idle timer at 12, with a notice waiting; while the
line is dominant the timer stands at 0, and the node does not begin. -/
def execAttemptStart (after : Nat) (s : State) : Host.Outcome State Fault Refusal :=
  let s := s.elapse after
  if s.engine = .waiting ∧ s.idleTimer = 12 then
    match s.nextNotice with
    | some k => .next (beginAttempt k s)
    | none => .next s
  else .next s

/-- ARBITRATION_LOST (R84, R85): a dominant bit read where the header has a recessive one ends the attempt; the notice
and its retry count stay. No loss can come at another bit (log entry 3). -/
def execArbitrationLost (after : Nat) (s : State) : Host.Outcome State Fault Refusal :=
  let s := s.elapse after
  match s.lin.attempt with
  | some a => if a.canLose s.now then .next (endAttempt s) else .next s
  | none => .next s

/-- BIT_ERROR (R74, R76, R86, R88, R89, R91): the bit read is not the bit sent, and the attempt fails. At a recessive data bit of
the header a mismatch is a loss, and no bit error can come (log entry 3). -/
def execBitError (after : Nat) (s : State) : Host.Outcome State Fault Refusal :=
  let s := s.elapse after
  match s.lin.attempt with
  | some a =>
      if a.canFail s.now then .next (countRetry (failAttempt a s)) else .next s
  | none => .next s

/-- ATTEMPT_COMPLETE (R87, R118): comes at the end of the frame's last stop bit. -/
def execAttemptComplete (s : State) : Host.Outcome State Fault Refusal :=
  match s.lin.attempt with
  | some a =>
      let s := s.reach (a.start + bitsUs (10 * a.frame.length))
      .next (noticeSent a.notice { frameEnds (endAttempt s) with lin.retry := 0, lin.lastNotice := none })
  | none => .next s

/-- RECOVERY_ATTEMPT (R91): the isolation timer expires, LIN waits to send its recovery Status. -/
def execRecoveryAttempt (s : State) : Host.Outcome State Fault Refusal :=
  match s.lin.isolationTimer with
  | some d => .next { s.reach d with lin.isolationTimer := none, lin.recovering := true }
  | none => .next s

/-- FRAMING_ERROR (R74, R75, R76): a stop bit that samples dominant. -/
def execFramingError (after : Nat) (s : State) : Host.Outcome State Fault Refusal :=
  .next (frameEnds (s.elapse after))

/-- FRAME_ABANDONED (R76): a length byte above 24; no frame is complete, and the line has been recessive since the last
dominant bit of that byte (R75). No other length byte abandons a frame (log entry 3). -/
def execFrameAbandoned (heard : AbandonedFrame) (s : State) : Host.Outcome State Fault Refusal :=
  let s := s.elapse heard.after
  if 24 < heard.length.toNat then
    .next { s with lin.assembler := .hunt, lin.idle := idleAfter (byteBits heard.length) s.now }
  else .next s

/-- FRAME_DISCARDED (R75 to R78): the frame completed and failed a check. In HUNT none is being assembled
(log entry 3). -/
def execFrameDiscarded (after : Nat) (s : State) : Host.Outcome State Fault Refusal :=
  let s := s.elapse after
  if s.lin.assembler = .hunt then .next s else .next (frameEnds s)

/-! ### The notices of peers -/

/-- STATUS_NOTICE (R101). -/
def execStatusNotice (after : Nat) (frame : List Byte) (s : State) : Host.Outcome State Fault Refusal :=
  .next (hearFrame frame readStatus (s.elapse after))

/-- CLAIM_NOTICE (R102). -/
def execClaimNotice (after : Nat) (frame : List Byte) (s : State) : Host.Outcome State Fault Refusal :=
  .next (hearFrame frame readClaim (s.elapse after))

/-- RELEASE_NOTICE (R103). -/
def execReleaseNotice (after : Nat) (frame : List Byte) (s : State) : Host.Outcome State Fault Refusal :=
  .next (hearFrame frame readRelease (s.elapse after))

/-- REPORT_NOTICE (R104). -/
def execReportNotice (after : Nat) (frame : List Byte) (s : State) : Host.Outcome State Fault Refusal :=
  .next (hearFrame frame readReport (s.elapse after))

/-! ### The timers of CLM -/

/-- STATUS_PERIOD_EXPIRY (R117): a Status requested, the timer runs on every P seconds. -/
def execStatusPeriodExpiry (s : State) : Host.Outcome State Fault Refusal :=
  match s.clm.statusTimer with
  | some d => .next (requestStatus { s.reach d with clm.statusTimer := some (d + secondsUs s.cfg.config.period) })
  | none => .next s

/-- CONTENTION_WINDOW_EXPIRY (R123, R124): without effect when no window runs. -/
def execContentionWindowExpiry (r : Resource) (s : State) : Host.Outcome State Fault Refusal :=
  match (s.clm.machine r).windowTimer with
  | some d => .next (windowExpires r (s.reach d))
  | none => .next s

/-- BACK_OFF_EXPIRY (R130). -/
def execBackOffExpiry (r : Resource) (s : State) : Host.Outcome State Fault Refusal :=
  match s.clm.backOff r with
  | some d => .next { s.reach d with clm := s.clm.withBackOff r none }
  | none => .next s

end Sys2Proof.Machine
end

