-- ==== Sys2Proof/Machine/Panel.lean ====
section
/-! DEFINITION. CFG: the directives of the site panel and the hold timer (section 11.5, R61, R135). -/

namespace Sys2Proof.Machine

/-- A Directive reaches CFG when its destination is 0 or the own address (R79). -/
def directedHere (dest : Nat) (s : State) : Bool := decide (dest = 0) || decide (dest = s.address)

/-- Reading a notice as one directive: its effect when the notice is a Directive of that code sent to 0 or to this node,
else none (R79, R197, log entry 5). -/
def readDirective (d : Directive) (act : Nat → State → State) (n : Notice) (s : State) : State :=
  match n with
  | .directive dest code param =>
      if code = directiveCode d ∧ directedHere dest s then act param s else s
  | .release _ _ _ _ => s
  | .claim _ _ _ _ _ => s
  | .report _ _ => s
  | .status _ _ => s

/-- The modes in which CFG acts on HOLD, STOP and CLEAR (R197). -/
def panelActs : NodeMode → Bool
  | .joining => true
  | .run => true
  | .monitorOnly => true
  | .isolated => true
  | .starting => false
  | .silent => false

/-- HOLD (R134, R197, R198): above 0 it sets or restarts the hold; 0 ends a hold in force. -/
def actHold (m : Nat) (s : State) : State :=
  if panelActs s.cfg.mode then
    if m = 0 then
      if s.cfg.hold then requestStatus { s with cfg.hold := false, cfg.holdTimer := none } else s
    else
      let held := if s.cfg.hold then s else holdStarts s
      requestStatus { held with cfg.hold := true, cfg.holdTimer := some (s.now + secondsUs (min m 1440 * 60)) }
  else s

/-- STOP (R135, R197). -/
def actStop (_ : Nat) (s : State) : State :=
  if panelActs s.cfg.mode then requestStatus (stopActs s) else s

/-- FORCE_EQ, in RUN only (R61, R197). -/
def actForceEq (_ : Nat) (s : State) : State :=
  if s.cfg.mode = .run then requestStatus { s with acc.forceEq := true } else s

/-- FORCE_WATER, in RUN only (R61, R197). -/
def actForceWater (_ : Nat) (s : State) : State :=
  if s.cfg.mode = .run then requestStatus { s with acc.forceWater := true } else s

/-- RND at a clear: both latches and the dry latch timer cleared; INHIBITED becomes FLOAT, STUCK passes to TRANSFER_BACK
with its recovery check (R160, R161, R199). -/
def clearLatches (s : State) : State :=
  let s : State := { s with rnd.inhibit := false, wat.dry := false, wat.dryTimer := none }
  if s.rnd.round = .inhibited then { s with rnd.round := .float }
  else if s.rnd.round = .stuck then commandFloatWithCheck false (enterTransferBack s)
  else s

/-- CLEAR (R197, R199): discarded when neither latch is set. -/
def actClear (_ : Nat) (s : State) : State :=
  if panelActs s.cfg.mode && (s.rnd.inhibit || s.wat.dry) then requestStatus (clearLatches s) else s

/-- QUERY (R197, R200): a Report joins the queue, where the queue takes one. -/
def actQuery (_ : Nat) (s : State) : State := requestReport s

/-! ### The commands -/

/-- HOLD (R198). -/
def execHold (after : Nat) (frame : List Byte) (s : State) : Host.Outcome State Fault Refusal :=
  .next (hearFrame frame (readDirective .hold actHold) (s.elapse after))

/-- STOP (R135). -/
def execStop (after : Nat) (frame : List Byte) (s : State) : Host.Outcome State Fault Refusal :=
  .next (hearFrame frame (readDirective .stop actStop) (s.elapse after))

/-- FORCE_EQ (R61). -/
def execForceEq (after : Nat) (frame : List Byte) (s : State) : Host.Outcome State Fault Refusal :=
  .next (hearFrame frame (readDirective .forceEq actForceEq) (s.elapse after))

/-- FORCE_WATER (R61). -/
def execForceWater (after : Nat) (frame : List Byte) (s : State) : Host.Outcome State Fault Refusal :=
  .next (hearFrame frame (readDirective .forceWater actForceWater) (s.elapse after))

/-- CLEAR (R199). -/
def execClear (after : Nat) (frame : List Byte) (s : State) : Host.Outcome State Fault Refusal :=
  .next (hearFrame frame (readDirective .clear actClear) (s.elapse after))

/-- QUERY (R200). -/
def execQuery (after : Nat) (frame : List Byte) (s : State) : Host.Outcome State Fault Refusal :=
  .next (hearFrame frame (readDirective .query actQuery) (s.elapse after))

/-- HOLD_TIMER_EXPIRY (R198): the hold ends, and a Status is requested. -/
def execHoldTimerExpiry (s : State) : Host.Outcome State Fault Refusal :=
  match s.cfg.holdTimer with
  | some d => .next (requestStatus { s.reach d with cfg.hold := false, cfg.holdTimer := none })
  | none => .next s

end Sys2Proof.Machine
end

