-- ==== Sys2Proof/Machine/RoundTimers.lean ====
section
/-! DEFINITION. RND: the expiries of the timers of both kinds of round (chapters 8 and 9). An expiry of a timer that does
not run changes nothing (log entry 3). -/

namespace Sys2Proof.Machine

/-! ### The equalising round -/

/-- CHARGER_WAIT_EXPIRY (R148): the charger never became ready. -/
def execChargerWaitExpiry (s : State) : Host.Outcome State Fault Refusal :=
  match s.rnd.chargerWait with
  | some d => .next (prepareEnds .aborted (some .charger) (s.reach d))
  | none => .next s

/-- TRANSFER_WINDOW_EXPIRY (R144): 250 ms after the command without the edge. -/
def execTransferWindowExpiry (s : State) : Host.Outcome State Fault Refusal :=
  match s.rnd.transferFrom with
  | some t => .next (transferLate { s.reach (t + transferUs) with rnd.transferFrom := none })
  | none => .next s

/-- RECOVERY_CHECK_EXPIRY (R145): the check fails, and the string is STUCK (R161). -/
def execRecoveryCheckExpiry (s : State) : Host.Outcome State Fault Refusal :=
  match s.rnd.recoveryCheck with
  | some c => .next (enterStuck (s.reach c.ends))
  | none => .next s

/-- CURRENT_WAIT_EXPIRY (R156): float is commanded with a transfer window. -/
def execCurrentWaitExpiry (s : State) : Host.Outcome State Fault Refusal :=
  match s.rnd.currentWait with
  | some d => .next (commandFloatWithWindow (s.reach d))
  | none => .next s

/-- REST_PERIOD_EXPIRY (R159): REST becomes FLOAT. -/
def execRestPeriodExpiry (s : State) : Host.Outcome State Fault Refusal :=
  match s.rnd.restPeriod with
  | some d =>
      .next
        { s.reach d with
          rnd.restPeriod := none
          rnd.round := if s.rnd.round = .rest then .float else s.rnd.round }
  | none => .next s

/-! ### The watering round -/

/-- EARLY_FLOW_LIMIT_EXPIRY (R171): from here on a first flow pulse is flow, not early flow. -/
def execEarlyFlowLimitExpiry (s : State) : Host.Outcome State Fault Refusal :=
  match s.wat.earlyLimit with
  | some d => .next { s.reach d with wat.earlyLimit := none }
  | none => .next s

/-- FLOW_WINDOW_EXPIRY (R171): the window passed without a flow pulse. -/
def execFlowWindowExpiry (s : State) : Host.Outcome State Fault Refusal :=
  match s.wat.flowWindow with
  | some d => .next (flowWindowPasses (s.reach d))
  | none => .next s

/-- OPEN_PERIOD_EXPIRY (R169): the valve closes after `on` seconds. -/
def execOpenPeriodExpiry (s : State) : Host.Outcome State Fault Refusal :=
  match s.wat.openPeriod with
  | some d => .next (closePulse (s.reach d))
  | none => .next s

/-- DRAIN_GRACE_EXPIRY (R169, R170). -/
def execDrainGraceExpiry (s : State) : Host.Outcome State Fault Refusal :=
  match s.wat.drainGrace with
  | some d => .next (checkClosedPeriod { s.reach d with wat.drainGrace := none })
  | none => .next s

/-- OFF_TIME_EXPIRY (R169). -/
def execOffTimeExpiry (s : State) : Host.Outcome State Fault Refusal :=
  match s.wat.offTime with
  | some d => .next (checkClosedPeriod { s.reach d with wat.offTime := none })
  | none => .next s

/-- ROUND_LIMIT_EXPIRY (R175): the round ends TIMED_OUT. -/
def execRoundLimitExpiry (s : State) : Host.Outcome State Fault Refusal :=
  match s.wat.roundLimit with
  | some d => .next (wateringEnds .timedOut none (s.reach d))
  | none => .next s

/-- DRY_LATCH_EXPIRY (R178): the dry latch clears. -/
def execDryLatchExpiry (s : State) : Host.Outcome State Fault Refusal :=
  match s.wat.dryTimer with
  | some d => .next { s.reach d with wat.dry := false, wat.dryTimer := none }
  | none => .next s

end Sys2Proof.Machine
end

