-- ==== Sys2Proof/Machine/Monitor.lean ====
section
/-! DEFINITION. MON: mean, spread, monitors, summaries, spread block and band condition (chapter 3). -/

namespace Sys2Proof.Machine

/-- The values of the participating blocs (R41). -/
def participatingValues (blocs : List Channel) : List Nat :=
  (blocs.filter Channel.usable).map fun c => c.value.toNat

/-- The mean of the participating blocs, none when fewer than two participate (R42). -/
def meanOf (values : List Nat) : Option Nat :=
  if 2 ≤ values.length then some (values.sum / values.length) else none

/-- The spread of the participating blocs, none when fewer than two participate (R42). -/
def spreadOf (values : List Nat) : Option Nat :=
  if 2 ≤ values.length then some (values.foldl max 0 - values.foldl min (values.headD 0)) else none

/-- The distance of a value from the mean (R45). -/
def distance (v mean : Nat) : Nat := if mean ≤ v then v - mean else mean - v

/-- A status after its test: OUTSIDE stays until the return condition, INSIDE until the entry condition. -/
def monitorStatus (outside entry ret : Bool) : Bool := if outside then !ret else entry

/-- The deviation monitor of a participating bloc (R44, R45). -/
def stepDeviation (cfg : Configuration) (mean : Option Nat) (v : Nat) (outside : Bool) : Bool :=
  match mean with
  | some m => monitorStatus outside (decide (cfg.dv < distance v m)) (decide (distance v m + 5 ≤ cfg.dv))
  | none => outside

/-- The high monitor of a participating bloc (R46). -/
def stepHigh (cfg : Configuration) (v : Nat) (outside : Bool) : Bool :=
  monitorStatus outside (decide (cfg.vhi < v)) (decide (v + 20 ≤ cfg.vhi))

/-- The low monitor of a participating bloc (R47). -/
def stepLow (cfg : Configuration) (v : Nat) (outside : Bool) : Bool :=
  monitorStatus outside (decide (v < cfg.vlo)) (decide (cfg.vlo + 20 ≤ v))

/-- The monitors of one bloc at a sample set; those of a STALE bloc are kept (R44). -/
def stepMonitors (cfg : Configuration) (mean : Option Nat) (c : Channel) (m : BlocMonitor) : BlocMonitor :=
  if c.usable then
    { devOutside := stepDeviation cfg mean c.value.toNat m.devOutside
      highOutside := stepHigh cfg c.value.toNat m.highOutside
      lowOutside := stepLow cfg c.value.toNat m.lowOutside }
  else m

/-- A crossing raises an event when the selection of its kind allows it (R48). -/
def crossingEvent (selection : EventSelection) (before after : Bool) : Bool :=
  match selection with
  | .entry => !before && after
  | .ret => before && !after
  | .both => before != after

/-- Whether one bloc's step raises an event (R48). -/
def monitorEvent (cfg : Configuration) (before after : BlocMonitor) : Bool :=
  crossingEvent cfg.devSelection before.devOutside after.devOutside ||
    crossingEvent cfg.highSelection before.highOutside after.highOutside ||
    crossingEvent cfg.lowSelection before.lowOutside after.lowOutside

/-- All the monitors after stage 3 (R44 to R47). -/
def stepAllMonitors (cfg : Configuration) (blocs : List Channel) (monitors : List BlocMonitor) : List BlocMonitor :=
  List.zipWith (stepMonitors cfg (meanOf (participatingValues blocs))) blocs monitors

/-- Whether a sample set raises one or more monitor events (R48). -/
def monitorEvents (cfg : Configuration) (blocs : List Channel) (monitors : List BlocMonitor) : Bool :=
  (List.zipWith (monitorEvent cfg) monitors (stepAllMonitors cfg blocs monitors)).any id

/-- Whether some bloc of a freshness has a monitor OUTSIDE (R49, R50). -/
def someOutside (eligible : Channel → Bool) (outside : BlocMonitor → Bool) (blocs : List Channel)
    (monitors : List BlocMonitor) : Bool :=
  (blocs.zip monitors).any fun p => eligible p.1 && outside p.2

/-- A float-settled sample set (R51). -/
def floatSettled (cfg : Configuration) (current : Channel) (round : RoundState) (spread : Option Nat) : Bool :=
  (round == .float || round == .due || round == .waterDue) && current.usable &&
    decide (-((cfg.capacity * 10 / 50 : Nat) : Int) ≤ current.value) &&
    decide (current.value ≤ (cfg.capacity * 10 / 50 : Nat)) && spread.isSome

/-- Stage 5: the spread block (R51 to R53). -/
def Mon.stepSpreadBlock (cfg : Configuration) (current : Channel) (round : RoundState) (m : Mon) : Mon :=
  if floatSettled cfg current round m.spread then
    let sum := m.spreadSum + m.spread.getD 0
    if m.spreadCount + 1 = 3600 then
      { m with sFloat := sum / 3600, sFloatValid := true, spreadSum := 0, spreadCount := 0 }
    else { m with spreadSum := sum, spreadCount := m.spreadCount + 1 }
  else { m with spreadSum := 0, spreadCount := 0 }

/-- The band condition of a sample set (R54). -/
def bandCondition (cfg : Configuration) (current : Channel) (spread : Option Nat) : Bool :=
  (match spread with | some sp => decide (sp ≤ cfg.sOk) | none => false) && current.usable &&
    decide (current.value ≤ (cfg.capacity * 10 / 100 : Nat))

/-- MON at a sample set: the six stages in order (R40). -/
def Mon.sampleSet (cfg : Configuration) (scn : Scn) (round : RoundState) (m : Mon) : Mon :=
  let values := participatingValues scn.blocs
  let monitors := stepAllMonitors cfg scn.blocs m.monitors
  let summaries : Mon :=
    { m with
      monitors := monitors
      mean := meanOf values
      spread := spreadOf values
      devAlert := (meanOf values).isSome && someOutside Channel.usable BlocMonitor.devOutside scn.blocs monitors
      lowAlert := someOutside Channel.usable BlocMonitor.lowOutside scn.blocs monitors
      foldBack := someOutside (fun c => c.freshness == .fresh) BlocMonitor.highOutside scn.blocs monitors }
  let block := summaries.stepSpreadBlock cfg scn.current round
  { block with band := bandCondition cfg scn.current (spreadOf values) }

end Sys2Proof.Machine
end

