-- ==== Sys2Proof/Machine/Sample.lean ====
section
/-! DEFINITION. The scan commands and the sample set: SCAN_START, SAMPLE_SET, HOUR_EXPIRY (chapters 1 to 4, R106). -/

namespace Sys2Proof.Machine

/-! ### Need and fitness (section 4.5) -/

/-- Fitness to equalise (R65). -/
def fitToEqualise (s : State) : Bool :=
  decide (s.cfg.mode = .run) && !s.rnd.inhibit && s.scn.current.usable &&
    temperatureWithin s.rnd.temperature 50 400 && !s.acc.discharging && !s.mon.lowAlert

/-- The string is rested (R63). -/
def State.rested (s : State) : Bool := s.rnd.restTimer == restSeconds s.cfg.config

/-- Need of watering (R66). -/
def needsWater (s : State) : Bool := decide (s.cfg.config.wth ≤ s.acc.deficit) || s.acc.forceWater

/-- Fitness to water (R66). -/
def fitToWater (s : State) : Bool :=
  decide (s.cfg.mode = .run) && !s.rnd.inhibit && !s.wat.dry && s.stringFull && s.rested &&
    temperatureWithin s.rnd.temperature 50 450

/-- Equalise need against a threshold: 500 in FLOAT, 450 in DUE (R64). -/
def needsEqualise (threshold : Nat) (s : State) : Bool := decide (threshold ≤ s.acc.presentedScore)

/-! ### RND at a sample set, by the round state at delivery -/

/-- FLOAT (R67). -/
def floatSample (s : State) : State :=
  if needsEqualise 500 s && fitToEqualise s then { s with rnd.round := .due }
  else if needsWater s && fitToWater s then { s with rnd.round := .waterDue }
  else s

/-- DUE (R68, R121). -/
def dueSample (s : State) : State :=
  if needsEqualise 450 s && fitToEqualise s then
    if eqClaimAllowed s then
      { makeClaim .eq s.acc.presentedScore (claimShare s) s with rnd.round := .claiming }
    else s
  else { s with rnd.round := .float }

/-- WATER_DUE (R69, R122). -/
def waterDueSample (s : State) : State :=
  if needsWater s && fitToWater s then
    if waterClaimAllowed s then { makeClaim .water s.acc.urgency 0 s with rnd.round := .waterClaiming } else s
  else { s with rnd.round := .float }

/-- CLAIMING (R70). -/
def claimingSample (s : State) : State :=
  if fitToEqualise s then s else { withdraw .eq s with rnd.round := .float }

/-- WATER_CLAIMING (R70). -/
def waterClaimingSample (s : State) : State :=
  if fitToWater s then s else { withdraw .water s with rnd.round := .float }

/-- RND's action at a sample set in the round state it is delivered in (sections 4.5, 8.3 to 8.6). -/
def roundSample (s : State) : State :=
  match s.rnd.round with
  | .float => floatSample s
  | .due => dueSample s
  | .waterDue => waterDueSample s
  | .claiming => claimingSample s
  | .waterClaiming => waterClaimingSample s
  | .prepare => prepareSample s
  | .equalising => equaliseSample s
  | .soak => equaliseSample s
  | .transferBack => backSample s
  | .transferOut => s
  | .rest => s
  | .watering => s
  | .inhibited => s
  | .stuck => s

/-- The measurements taken in: SCN, MON and ACC, with the round state at delivery (R14, R18, R40, R43). -/
def takeMeasurements (words : List ScanWord) (s : State) : State :=
  let scn := s.scn.complete words
  let mon := s.mon.sampleSet s.cfg.config scn s.rnd.round
  let measured : State :=
    { s with scn := scn, mon := mon, acc := s.acc.sampleSet s.cfg.config scn.current s.rnd.round mon }
  if monitorEvents s.cfg.config scn.blocs s.mon.monitors then requestStatus measured else measured

/-- The string temperature and the rest timer of the sample set (R62, R63). `before` is the state at delivery. -/
def takeConditions (before s : State) : State :=
  let recognised := before.acc.recognises s.cfg.config s.scn.current s.rnd.round
  { s with
    rnd.temperature := stringTemperature s.scn.pilot s.scn.ambient
    rnd.restTimer := stepRestTimer s.cfg.config s.rnd.round recognised s.rnd.restTimer }

/-- The delivery of a sample set to every block (R14, R18, R43, R136). -/
def deliverSampleSet (words : List ScanWord) (s : State) : State :=
  let conditioned := takeConditions s (takeMeasurements words s)
  reduceShare conditioned.scn.current (roundSample conditioned)

/-! ### The commands -/

/-- The one-second expiry: the next one is set, the records age, and a scan begins once the configuration read has
ended (R1, R2, R106, R107). -/
def secondExpires (s : State) : State :=
  let s := s.reach s.nextSecond
  { s with
    nextSecond := s.nextSecond + secondsUs 1
    ptb := agePeers s.cfg.config.period s.ptb
    scn.scanEnds := if s.cfg.readEnded then some (s.now + scanUs) else s.scn.scanEnds }

/-- SCAN_START (R2). -/
def execScanStart (s : State) : Host.Outcome State Fault Refusal := .next (secondExpires s)

/-- SAMPLE_SET (R14); without a scan in progress there is no sample set (R2). -/
def execSampleSet (words : List ScanWord) (s : State) : Host.Outcome State Fault Refusal :=
  match s.scn.scanEnds with
  | some ends => .next (deliverSampleSet words (s.reach ends))
  | none => .next s

/-- HOUR_EXPIRY (R30). -/
def execHourExpiry (s : State) : Host.Outcome State Fault Refusal :=
  let s := s.reach s.nextHour
  .next { s with nextHour := s.nextHour + hourUs, acc := s.acc.hourExpiry }

end Sys2Proof.Machine
end

