-- ==== Sys2Proof/Machine/Startup.lean ====
section
/-! DEFINITION. CFG: reset, the address straps, the configuration read, the self-test, the end of start-up, the joining
timer (chapter 11). -/

namespace Sys2Proof.Machine

/-- A line of a level input after reset: the pin keeps the level the outside gives it (R189, log entry 8). -/
def LevelLine.afterReset (l : LevelLine) : LevelLine := { resetLine with pinHigh := l.pinHigh }

/-- The part after RESET: every block at its reset state; the levels at the pins and the waiting commands belong to the
outside and stay (R190, log entry 8). -/
def afterReset (s : State) : State :=
  { State.reset with
    resets := s.resets + 1
    fld.fb := s.fld.fb.afterReset
    fld.crdy := s.fld.crdy.afterReset
    fld.probes := s.fld.probes.map LevelLine.afterReset
    fld.flowPinHigh := s.fld.flowPinHigh
    pending := s.pending }

/-! ### The end of start-up (R190) -/

/-- A strapped address the site has: 1 to N_site (R190). -/
def addressInSite (s : State) : Bool := decide (1 ≤ s.address) && decide (s.address ≤ s.cfg.config.nSite)

/-- The self-test has ended (R190). -/
def SelfTest.ended : SelfTest → Bool
  | .passed => true
  | .failed => true
  | .notBegun => false
  | .running _ => false

/-- The change out of STARTING: the account at Qmax, the assembler in HUNT, then SILENT, MONITOR_ONLY or JOINING
(R17, R93, R117, R190, R195). -/
def leaveStarting (s : State) : State :=
  let s : State := { s with acc.charge := qmax s.cfg.config, lin.assembler := .hunt, lin.idle := .counting s.now }
  if s.cfg.selfTest = .failed ∨ addressInSite s = false then { s with cfg.mode := .silent }
  else if s.cfg.failed then startStatusTimer { s with cfg.mode := .monitorOnly }
  else enterJoining s

/-- Start-up ends when the self-test has ended and the straps have settled (R190). -/
def checkStartUp (s : State) : State :=
  if s.cfg.mode = .starting ∧ s.cfg.address.isSome ∧ s.cfg.selfTest.ended then leaveStarting s else s

/-! ### The configuration read (R191) -/

/-- The start of conditioning for one level input: debounced inactive, the stability timer at 0 when the input is enabled
(R181). -/
def startConditioning (c : Configuration) (now : Nat) (i : LevelInput) (l : LevelLine) : LevelLine :=
  { l with active := false, timer := if inputEnabled c i then some (now + stabilityUs) else none }

/-- The field lines at the end of the configuration read (R180, R181, R183). -/
def Fld.startConditioning (c : Configuration) (now : Nat) (f : Fld) : Fld :=
  { f with
    fb := Machine.startConditioning c now .fb f.fb
    crdy := Machine.startConditioning c now .crdy f.crdy
    probes := (List.finRange 8).map fun g => Machine.startConditioning c now (.prb g) (f.line (.prb g))
    flow := .spent
    flowTimer := none }

/-- The checked configuration put in force: the channels and monitors in use, the account's Qmax, the inputs and the
self-test (R8, R15, R17, R180, R181, R191, R194). -/
def configure (c : Configuration) (failed clamped : Bool) (s : State) : State :=
  { s with
    cfg.readEnded := true
    cfg.config := c
    cfg.failed := failed
    cfg.clamped := clamped
    cfg.selfTest := .running (s.now + selfTestUs)
    scn.blocs := List.replicate c.blocCount resetChannel
    scn.staleCount := c.blocCount + 4
    mon.monitors := List.replicate c.blocCount resetMonitor
    acc.charge := qmax c
    fld := s.fld.startConditioning c s.now }

/-! ### The commands -/

/-- RESET (R190). -/
def execReset (s : State) : Host.Outcome State Fault Refusal := .next (afterReset s)

/-- STRAPS_SETTLED (R184, R190): 20 ms at least after reset; the one reading stands until the next reset. Straps that
keep changing put the command off (log entry 3). -/
def execStrapsSettled (after : Nat) (straps : BitVec 5) (s : State) : Host.Outcome State Fault Refusal :=
  let s := s.elapse after
  match s.fld.strapTimer with
  | some d =>
      if s.now < d ∨ s.cfg.address.isSome then .next s
      else .next (checkStartUp { s with cfg.address := some straps, fld.strapTimer := none })
  | none => .next s

/-- CONFIGURATION_READ (R191): the one read of a start-up ends, 1.632 ms after reset. -/
def execConfigurationRead (record : List Byte) (s : State) : Host.Outcome State Fault Refusal :=
  if s.cfg.readEnded then .next s
  else
    let s := s.reach configurationReadUs
    if recordPasses record then .next (configure (checkedConfiguration record) false (recordClamped record) s)
    else .next (configure builtInDefaults true false s)

/-- SELF_TEST (R194): passes when the assembler completes the frame that was sent. -/
def execSelfTest (looped : Option (List Byte)) (s : State) : Host.Outcome State Fault Refusal :=
  match s.cfg.selfTest with
  | .running d =>
      .next (checkStartUp
        { s.reach d with cfg.selfTest := if looped = some testFrame then .passed else .failed })
  | .notBegun => .next s
  | .passed => .next s
  | .failed => .next s

/-- JOINING_TIMER_EXPIRY (R195). -/
def execJoiningTimerExpiry (s : State) : Host.Outcome State Fault Refusal :=
  match s.cfg.joiningTimer with
  | some d =>
      .next { s.reach d with cfg.joiningTimer := none, cfg.mode := if s.cfg.failed then .monitorOnly else .run }
  | none => .next s

end Sys2Proof.Machine
end

