-- ==== Sys2Proof/Machine/Dispatch.lean ====
section
/-! DEFINITION. One arm per command: what each does to everything but the queue. -/

namespace Sys2Proof.Machine

def exec (i : Instr) (s : State) : Host.Outcome State Fault Refusal :=
  match i with
  | .reset => Sys2Proof.Machine.execReset s
  | .strapsSettled after straps => Sys2Proof.Machine.execStrapsSettled after straps s
  | .configurationRead record => Sys2Proof.Machine.execConfigurationRead record s
  | .selfTest looped => Sys2Proof.Machine.execSelfTest looped s
  | .scanStart => Sys2Proof.Machine.execScanStart s
  | .sampleSet words => Sys2Proof.Machine.execSampleSet words s
  | .hourExpiry => Sys2Proof.Machine.execHourExpiry s
  | .lineIdle after => Sys2Proof.Machine.execLineIdle after s
  | .lineBreak after => Sys2Proof.Machine.execLineBreak after s
  | .dominantCount after => Sys2Proof.Machine.execDominantCount after s
  | .attemptStart after => Sys2Proof.Machine.execAttemptStart after s
  | .arbitrationLost after => Sys2Proof.Machine.execArbitrationLost after s
  | .bitError after => Sys2Proof.Machine.execBitError after s
  | .attemptComplete => Sys2Proof.Machine.execAttemptComplete s
  | .recoveryAttempt => Sys2Proof.Machine.execRecoveryAttempt s
  | .statusNotice after frame => Sys2Proof.Machine.execStatusNotice after frame s
  | .claimNotice after frame => Sys2Proof.Machine.execClaimNotice after frame s
  | .releaseNotice after frame => Sys2Proof.Machine.execReleaseNotice after frame s
  | .reportNotice after frame => Sys2Proof.Machine.execReportNotice after frame s
  | .hold after frame => Sys2Proof.Machine.execHold after frame s
  | .stop after frame => Sys2Proof.Machine.execStop after frame s
  | .forceEq after frame => Sys2Proof.Machine.execForceEq after frame s
  | .forceWater after frame => Sys2Proof.Machine.execForceWater after frame s
  | .clear after frame => Sys2Proof.Machine.execClear after frame s
  | .query after frame => Sys2Proof.Machine.execQuery after frame s
  | .statusPeriodExpiry => Sys2Proof.Machine.execStatusPeriodExpiry s
  | .joiningTimerExpiry => Sys2Proof.Machine.execJoiningTimerExpiry s
  | .holdTimerExpiry => Sys2Proof.Machine.execHoldTimerExpiry s
  | .contentionWindowExpiry r => Sys2Proof.Machine.execContentionWindowExpiry r s
  | .backOffExpiry r => Sys2Proof.Machine.execBackOffExpiry r s
  | .chargerWaitExpiry => Sys2Proof.Machine.execChargerWaitExpiry s
  | .transferWindowExpiry => Sys2Proof.Machine.execTransferWindowExpiry s
  | .recoveryCheckExpiry => Sys2Proof.Machine.execRecoveryCheckExpiry s
  | .currentWaitExpiry => Sys2Proof.Machine.execCurrentWaitExpiry s
  | .restPeriodExpiry => Sys2Proof.Machine.execRestPeriodExpiry s
  | .rawLevelChange after input high => Sys2Proof.Machine.execRawLevelChange after input high s
  | .stabilityTimerExpiry input => Sys2Proof.Machine.execStabilityTimerExpiry input s
  | .flowEdge after high => Sys2Proof.Machine.execFlowEdge after high s
  | .flowTimerExpiry => Sys2Proof.Machine.execFlowTimerExpiry s
  | .earlyFlowLimitExpiry => Sys2Proof.Machine.execEarlyFlowLimitExpiry s
  | .flowWindowExpiry => Sys2Proof.Machine.execFlowWindowExpiry s
  | .openPeriodExpiry => Sys2Proof.Machine.execOpenPeriodExpiry s
  | .drainGraceExpiry => Sys2Proof.Machine.execDrainGraceExpiry s
  | .offTimeExpiry => Sys2Proof.Machine.execOffTimeExpiry s
  | .roundLimitExpiry => Sys2Proof.Machine.execRoundLimitExpiry s
  | .dryLatchExpiry => Sys2Proof.Machine.execDryLatchExpiry s
  | .pwmPeriodStart => Sys2Proof.Machine.execPwmPeriodStart s
  | .framingError after => Sys2Proof.Machine.execFramingError after s
  | .frameAbandoned heard => Sys2Proof.Machine.execFrameAbandoned heard s
  | .frameDiscarded after => Sys2Proof.Machine.execFrameDiscarded after s

end Sys2Proof.Machine
end

