-- ==== Sys2Proof/Safety.lean ====
section
/-! DEFINITION. What counts as a safe state of the part, in the terms the claims use: values in their ranges, a coherent
round, a well kept peer table. -/

namespace Sys2Proof.Machine

/-! ### Configuration and values in their ranges -/

/-- A configuration in its ranges (R17, R40, R56, R63, R66, R119, R153, R163, R192). -/
structure ConfigInRange (c : Configuration) : Prop where
  nSite : 2 ≤ c.nSite ∧ c.nSite ≤ 24
  rMin : 1 ≤ c.rMin ∧ c.rMin ≤ c.nSite - 1
  eBus : 10 ≤ c.eBus ∧ c.eBus ≤ 5000
  capacity : 20 ≤ c.capacity ∧ c.capacity ≤ 4000
  eta : 90 ≤ c.eta ∧ c.eta ≤ 100
  shareDivisor : 10 ≤ c.shareDivisor ∧ c.shareDivisor ≤ 50
  intervalDays : 7 ≤ c.intervalDays ∧ c.intervalDays ≤ 365
  turnoverLimit : 1 ≤ c.turnoverLimit ∧ c.turnoverLimit ≤ 20
  sOk : 5 ≤ c.sOk ∧ c.sOk ≤ 200
  sBad : c.sOk + 10 ≤ c.sBad ∧ c.sBad ≤ 400
  dv : 10 ≤ c.dv ∧ c.dv ≤ 300
  vhi : 2200 ≤ c.vhi ∧ c.vhi ≤ 2700
  vlo : 1600 ≤ c.vlo ∧ c.vlo ≤ 2000
  holdMinutes : 30 ≤ c.holdMinutes ∧ c.holdMinutes ≤ 240
  minHours : 1 ≤ c.minHours ∧ c.minHours ≤ 8
  restHours : 1 ≤ c.restHours ∧ c.restHours ≤ 8
  maxHours : 4 ≤ c.maxHours ∧ c.maxHours ≤ 24
  wth : 10000 ≤ c.wth ∧ c.wth ≤ 500000
  blocCount : 4 ≤ c.blocCount ∧ c.blocCount ≤ 24
  groupCount : 1 ≤ c.groupCount ∧ c.groupCount ≤ min 8 c.blocCount
  cells : c.cells.length = c.groupCount ∧ (∀ n ∈ c.cells, 1 ≤ n ∧ n ≤ 24) ∧ c.cells.sum ≤ c.blocCount
  onSeconds : 1 ≤ c.onSeconds ∧ c.onSeconds ≤ 20
  offSeconds : 2 ≤ c.offSeconds ∧ c.offSeconds ≤ 60
  vFlow : 1 ≤ c.vFlow ∧ c.vFlow ≤ 50
  period : 5 ≤ c.period ∧ c.period ≤ 60
  window : 2 ≤ c.window ∧ c.window ≤ 10

/-- A byte of the configuration record as a number (R201). -/
def byteAt (record : List Byte) (i : Nat) : Nat := (record.getD i 0#8).toNat

/-- A two-byte field of the record, high byte first (R201). -/
def wordAt (record : List Byte) (i : Nat) : Nat := byteAt record i * 256 + byteAt record (i + 1)

/-- The value in the range `lo` to `hi` nearest to `v` (R192). -/
def nearest (lo hi v : Nat) : Nat := max lo (min hi v)

/-- The event selection of a two-bit code of the record; a code that is none of the three is BOTH (R40, R192, R201). -/
structure Selects (code : Nat) (selection : EventSelection) : Prop where
  entry : code = 1 → selection = .entry
  ret : code = 2 → selection = .ret
  both : code = 0 ∨ code = 3 → selection = .both

/-- The configuration that the bytes of a passing record give: the layout of R201, every field at the nearest value of its
range, dependent fields last (R192, and the ranges of R17, R40, R56, R63, R66, R119, R153, R163). -/
structure CheckedFrom (record : List Byte) (c : Configuration) : Prop where
  nSite : c.nSite = nearest 2 24 (byteAt record 1)
  rMin : c.rMin = nearest 1 (c.nSite - 1) (byteAt record 2)
  eBus : c.eBus = nearest 10 5000 (wordAt record 3)
  capacity : c.capacity = nearest 20 4000 (wordAt record 5)
  eta : c.eta = nearest 90 100 (byteAt record 7)
  shareDivisor : c.shareDivisor = nearest 10 50 (byteAt record 8)
  intervalDays : c.intervalDays = nearest 7 365 (wordAt record 9)
  turnoverLimit : c.turnoverLimit = nearest 1 20 (byteAt record 11)
  sOk : c.sOk = nearest 5 200 (byteAt record 12)
  sBad : c.sBad = nearest (c.sOk + 10) 400 (wordAt record 13)
  dv : c.dv = nearest 10 300 (wordAt record 15)
  vhi : c.vhi = nearest 2200 2700 (wordAt record 17)
  vlo : c.vlo = nearest 1600 2000 (wordAt record 19)
  selections : Selects (byteAt record 21 / 64 % 4) c.devSelection ∧ Selects (byteAt record 21 / 16 % 4) c.highSelection ∧
    Selects (byteAt record 21 / 4 % 4) c.lowSelection
  outputs : (c.almActiveHigh = true ↔ byteAt record 21 / 2 % 2 = 1) ∧ (c.alwaysOn = true ↔ byteAt record 21 % 2 = 1)
  holdMinutes : c.holdMinutes = nearest 30 240 (byteAt record 22)
  minHours : c.minHours = nearest 1 8 (byteAt record 23 / 16)
  restHours : c.restHours = nearest 1 8 (byteAt record 23 % 16)
  maxHours : c.maxHours = nearest 4 24 (byteAt record 24)
  wth : c.wth = nearest 10000 500000 (byteAt record 25 * 65536 + wordAt record 26)
  blocCount : c.blocCount = nearest 4 24 (byteAt record 42)
  groupCount : c.groupCount = nearest 1 (min 8 c.blocCount) (byteAt record 28)
  cells : ∀ (n : Nat → Nat) (excess : Nat), (∀ g, n g = nearest 1 24 (byteAt record (29 + g))) →
    excess = ((List.range c.groupCount).map n).sum - c.blocCount →
    c.cells.length = c.groupCount ∧
      ∀ g, g < c.groupCount →
        c.cells[g]? =
          some (n g - min (n g - 1) (excess - (((List.range c.groupCount).drop (g + 1)).map fun h => n h - 1).sum))
  onSeconds : c.onSeconds = nearest 1 20 (byteAt record 37)
  offSeconds : c.offSeconds = nearest 2 60 (byteAt record 38)
  vFlow : c.vFlow = nearest 1 50 (byteAt record 39)
  period : c.period = nearest 5 60 (byteAt record 40)
  window : c.window = nearest 2 10 (byteAt record 41)
  probes : ∀ g, g < 8 → (c.probeEnable.getLsbD g = true ↔ byteAt record 43 / 2 ^ g % 2 = 1) ∧
    (c.probeInvert.getLsbD g = true ↔ byteAt record 44 / 2 ^ g % 2 = 1)
  enables : (c.fbEnable = true ↔ byteAt record 45 / 32 % 2 = 1) ∧ (c.crdyEnable = true ↔ byteAt record 45 / 16 % 2 = 1) ∧
    (c.flowEnable = true ↔ byteAt record 45 / 8 % 2 = 1)
  inverts : (c.fbInvert = true ↔ byteAt record 45 / 4 % 2 = 1) ∧ (c.crdyInvert = true ↔ byteAt record 45 / 2 % 2 = 1) ∧
    (c.flowInvert = true ↔ byteAt record 45 % 2 = 1)

/-- The configuration in force when the record fails its check (R193, and the defaults stated with the fields in R17, R40,
R56, R63, R66, R119, R153 and R163). -/
def DefaultsOfR193 (c : Configuration) : Prop :=
  c =
    { nSite := 24, rMin := 1, eBus := 10, capacity := 100, eta := 96, shareDivisor := 20, intervalDays := 90,
      turnoverLimit := 4, sOk := 30, sBad := 90, dv := 50, vhi := 2450, vlo := 1800, devSelection := .both,
      highSelection := .both, lowSelection := .both, almActiveHigh := false, alwaysOn := false, holdMinutes := 60,
      minHours := 2, restHours := 2, maxHours := 12, wth := 60000, groupCount := 8, cells := List.replicate 8 3,
      onSeconds := 5, offSeconds := 10, vFlow := 10, period := 10, window := 4, blocCount := 24, probeEnable := 0xFF#8,
      probeInvert := 0x00#8, fbEnable := true, crdyEnable := true, flowEnable := true, fbInvert := false,
      crdyInvert := false, flowInvert := false }

/-- The account in its ranges (section 2.1, R17, R24, R30 to R32, R60). -/
structure Acc.InRange (c : Configuration) (a : Acc) : Prop where
  charge : a.charge ≤ qmax c
  gassing : a.gassing ≤ countLimit
  discharged : a.discharged ≤ countLimit
  hours : a.hours ≤ 65535
  fullTimer : a.fullTimer ≤ 7200
  runs : a.dischargeRun ≤ 59 ∧ a.recoveryRun ≤ 59
  terms : a.tt ≤ 400 ∧ a.tq ≤ 300 ∧ a.ts ≤ 300
  deficit : a.deficit ≤ 999999
  urgency : a.urgency ≤ 1000

/-- A channel in its ranges: its value, and its runs by its freshness (R10 to R12). -/
structure Channel.InRange (lo hi : Int) (c : Channel) : Prop where
  value : lo ≤ c.value ∧ c.value ≤ hi
  fresh : c.freshness = .fresh → c.invalidRun = 0
  held : c.freshness = .held → 1 ≤ c.invalidRun ∧ c.invalidRun ≤ 4
  stale : c.freshness = .stale → c.invalidRun = 5 ∧ c.recoveryRun ≤ 2
  recovery : c.freshness ≠ .stale → c.recoveryRun = 0

/-- The channels in use and their monitors, in their ranges and of the configured number (R8, R10, R15, R44). -/
structure ChannelsInRange (s : State) : Prop where
  blocs : s.scn.blocs.length = s.cfg.config.blocCount ∧ ∀ c ∈ s.scn.blocs, c.InRange 0 4000
  current : s.scn.current.InRange (-30000) 30000
  voltage : s.scn.voltage.InRange 0 65535
  pilot : s.scn.pilot.InRange (-400) 850
  ambient : s.scn.ambient.InRange (-400) 850
  stale : s.scn.staleCount =
    countStale s.scn.blocs s.scn.current s.scn.voltage s.scn.pilot s.scn.ambient
  monitors : s.mon.monitors.length = s.cfg.config.blocCount

/-- The spread block in its ranges (R42, R52). -/
structure SpreadInRange (m : Mon) : Prop where
  spread : ∀ d, m.spread = some d → d ≤ 4000
  sum : m.spreadSum ≤ 4000 * m.spreadCount
  count : m.spreadCount ≤ 3599
  sFloat : m.sFloat ≤ 4000

/-- A claim machine in its ranges (R113, R114, R119). -/
structure ClaimMachine.InRange (m : ClaimMachine) : Prop where
  tag : m.tag ≤ 255
  given : m.state ≠ .none → 1 ≤ m.tag
  snapshot : m.snapshot ≤ 1000
  share : m.share ≤ 5000

/-- Every counted value of the part in the range the spec gives it (R10, R17, R24, R30, R31, R32, R60, R75, R88, R113, R141,
R151, R154, R164, R171). -/
structure ValuesInRange (s : State) : Prop where
  config : ConfigInRange s.cfg.config
  channels : ChannelsInRange s
  spread : SpreadInRange s.mon
  account : s.acc.InRange s.cfg.config
  eq : s.clm.eq.InRange
  water : s.clm.water.InRange
  nextTag : 1 ≤ s.clm.nextTag ∧ s.clm.nextTag ≤ 255
  sentTag : ∀ a r n, s.lin.attempt = some a → a.notice = .claim r n → 1 ≤ n ∧ n ≤ 255
  retry : s.lin.retry ≤ 7
  duty : s.rnd.duty ≤ 1023 ∧ s.fld.pwmDuty ≤ 1023
  timers : s.rnd.elapsed ≤ 86400 ∧ s.rnd.bandTimer ≤ 86400 ∧ s.rnd.restTimer ≤ restSeconds s.cfg.config
  history : s.clm.history.length ≤ 60 ∧ s.clm.lowRun ≤ 600
  shares : s.rnd.applied ≤ 5000 ∧ s.rnd.pending ≤ 5000
  idle : s.idleTimer ≤ 12
  groups : ∀ r ∈ s.wat.groups, r.carried ≤ 999999 ∧ r.target ≤ 24999975 ∧ r.cap ≤ 37499962 ∧ r.dosed ≤ 65535
  noFlow : s.wat.noFlow ≤ 2 ∧ (s.rnd.round = .watering → s.wat.noFlow ≤ 1)
  lists : s.wat.groups.length = 8 ∧ s.fld.probes.length = 8
  records : ∀ l, s.rnd.lastEq = some l ∨ s.rnd.lastWater = some l → l.minutes ≤ 65535
  unread : s.cfg.readEnded = false → s.scn.scanEnds = none ∧ s.rnd.restTimer = 0 ∧
    ∀ c, c = s.scn.current ∨ c = s.scn.voltage ∨ c = s.scn.pilot ∨ c = s.scn.ambient → c.freshness = .stale

/-! ### The node mode and what goes with it -/

/-- The node mode, the timers and the attempts that belong to it (R82, R89 to R93, R117, R190, R191, R195, R198). -/
structure ModesKept (s : State) : Prop where
  started : s.cfg.mode ≠ .starting → s.cfg.readEnded = true ∧ s.cfg.address.isSome = true
  tested : s.cfg.selfTest ≠ .notBegun → s.cfg.readEnded = true
  joining : s.cfg.joiningTimer.isSome = true ↔ s.cfg.mode = .joining
  isolation : s.lin.isolationTimer.isSome = true ∨ s.lin.recovering = true ↔ s.cfg.mode = .isolated
  recovery : s.lin.isolationTimer.isSome = true → s.lin.recovering = false
  sending : ∀ a, s.lin.attempt = some a →
    if s.lin.recovering then a.notice = .recovery else a.notice ≠ .recovery ∧ queueOpen s.cfg.mode = true
  statusPeriod : s.clm.statusTimer.isSome = true ↔ queueOpen s.cfg.mode = true
  hold : s.cfg.holdTimer.isSome = true ↔ s.cfg.hold = true

/-! ### A coherent round -/

/-- The round states of an equalising round, from its hold to its end (section 8.1). -/
def inEqualise : RoundState → Bool
  | .prepare => true
  | .transferOut => true
  | .equalising => true
  | .soak => true
  | .transferBack => true
  | .stuck => true
  | .float => false
  | .due => false
  | .claiming => false
  | .rest => false
  | .waterDue => false
  | .waterClaiming => false
  | .watering => false
  | .inhibited => false

/-- The round states in which the round works under a HELD EQ claim (section 8.1). -/
def workingEqualise : RoundState → Bool
  | .prepare => true
  | .transferOut => true
  | .equalising => true
  | .soak => true
  | .transferBack => false
  | .stuck => false
  | .float => false
  | .due => false
  | .claiming => false
  | .rest => false
  | .waterDue => false
  | .waterClaiming => false
  | .watering => false
  | .inhibited => false

/-- A claim that is queued or contending. -/
def claimPending (st : ClaimState) : Prop := st = .queued ∨ st = .contending

/-- The round state, the claims, the relay, the limiter, the demand and the round's timers agree (section 8.1, R138,
R143, R147, R154, R159, R161, R168, R169). -/
structure Coherent (s : State) : Prop where
  eqPending : claimPending s.clm.eq.state ↔ s.rnd.round = .claiming
  waterPending : claimPending s.clm.water.state ↔ s.rnd.round = .waterClaiming
  eqHeld : s.clm.eq.state = .held → inEqualise s.rnd.round = true
  working : workingEqualise s.rnd.round = true → s.clm.eq.state = .held
  waterHeld : s.clm.water.state = .held ↔ s.rnd.round = .watering
  onlyInRun : claimPending s.clm.eq.state ∨ s.clm.eq.state = .held ∨ claimPending s.clm.water.state ∨
    s.clm.water.state = .held ∨ s.rnd.round = .due ∨ s.rnd.round = .waterDue → s.cfg.mode = .run
  eqWindow : s.clm.eq.windowTimer.isSome = true ↔ s.clm.eq.state = .contending
  waterWindow : s.clm.water.windowTimer.isSome = true ↔ s.clm.water.state = .contending
  yielding : (s.clm.eq.yielding = true → s.clm.eq.state = .held) ∧
    (s.clm.water.yielding = true → s.clm.water.state = .held)
  relay : s.rnd.relay = .equalise →
    s.rnd.round = .transferOut ∨ s.rnd.round = .equalising ∨ s.rnd.round = .soak ∨ s.rnd.currentWait.isSome = true
  currentWait : s.rnd.currentWait.isSome = true → s.rnd.round = .transferBack ∧ s.clm.eq.state = .held
  duty : s.rnd.duty ≠ 0 → s.rnd.round = .equalising ∨ s.rnd.round = .soak
  limiter : s.fld.pwmDuty ≠ 0 → s.rnd.duty ≠ 0
  demand : s.rnd.demand = true ↔ inEqualise s.rnd.round = true
  chargerWait : s.rnd.chargerWait.isSome = true ↔ s.rnd.round = .prepare
  transferOut : s.rnd.round = .transferOut → s.rnd.transferFrom.isSome = true
  transferFrom : s.rnd.transferFrom.isSome = true → s.rnd.round = .transferOut ∨ s.rnd.round = .transferBack
  recoveryCheck : s.rnd.recoveryCheck.isSome = true → s.rnd.round = .transferBack
  goingBack : s.rnd.round = .transferBack →
    (if s.rnd.currentWait.isSome then 1 else 0) + (if s.rnd.transferFrom.isSome then 1 else 0) +
      (if s.rnd.recoveryCheck.isSome then 1 else 0) = 1
  rest : s.rnd.restPeriod.isSome = true ↔ s.rnd.round = .rest
  latched : s.rnd.round = .stuck ∨ s.rnd.round = .inhibited → s.rnd.inhibit = true
  equaliseRecord : inEqualise s.rnd.round = true → s.rnd.record.map OpenRecord.kind = some .equalise
  wateringRecord : s.rnd.round = .watering → s.rnd.record.map OpenRecord.kind = some .watering
  noRecord : inEqualise s.rnd.round = false → s.rnd.round ≠ .watering → s.rnd.record = none
  outcomeFixed : s.rnd.round = .transferBack ∨ s.rnd.round = .stuck →
    (s.rnd.record.bind OpenRecord.outcome).isSome = true
  outcomeOpen : workingEqualise s.rnd.round = true ∨ s.rnd.round = .watering →
    s.rnd.record.bind OpenRecord.outcome = none
  valve : ∀ g, s.wat.valve = some g → s.rnd.round = .watering ∧ s.wat.plan.head? = some g
  pulse : s.wat.openPeriod.isSome = true ↔ s.wat.valve.isSome = true
  wateringTimers : s.wat.flowWindow.isSome = true ∨ s.wat.earlyLimit.isSome = true ∨ s.wat.offTime.isSome = true ∨
    s.wat.roundLimit.isSome = true ∨ s.wat.closedPeriod = true ∨ s.wat.plan ≠ [] → s.rnd.round = .watering
  closed : s.wat.closedPeriod = true → s.wat.valve = none

/-! ### A well kept peer table -/

/-- A record as the table may hold it (R95, R96, R107). -/
structure PeerRecord.Kept (nSite own period : Nat) (p : PeerRecord) : Prop where
  address : 1 ≤ p.address ∧ p.address ≤ nSite ∧ p.address ≠ own
  age : p.age ≤ 6 * period
  eqClaim : ∀ c, p.eqClaim = some c → 1 ≤ c.tag ∧ c.tag ≤ 255 ∧ c.share ≤ 65535 ∧ c.snapshot ≤ 1000
  waterClaim : ∀ c, p.waterClaim = some c → 1 ≤ c.tag ∧ c.tag ≤ 255 ∧ c.snapshot ≤ 1000

/-- The peer table as chapter 6 lays it down: one record per address, in rising order, each within its ranges, none in
STARTING (R95, R96, R107, R111). -/
structure PeersKept (s : State) : Prop where
  rising : s.ptb.Pairwise fun p q => p.address < q.address
  kept : ∀ p ∈ s.ptb, p.Kept s.cfg.config.nSite s.address s.cfg.config.period
  starting : s.cfg.mode = .starting → s.ptb = []

/-! ### The shares of a round -/

/-- The shares of a round in order (R151): in the working states the pending share, or with no pending share the applied
one, is the share of the HELD claim; outside them nothing is applied or pending. -/
structure SharesInOrder (s : State) : Prop where
  pending : workingEqualise s.rnd.round = true → s.rnd.pendingValid = true → s.rnd.pending = s.clm.eq.share
  applied : workingEqualise s.rnd.round = true → s.rnd.pendingValid = false → s.rnd.applied = s.clm.eq.share
  marked : s.rnd.pendingValid = true → workingEqualise s.rnd.round = true
  regulated : s.rnd.applied ≠ 0 → s.rnd.round = .equalising ∨ s.rnd.round = .soak

/-! ### Channel steps (R11, R12) -/

/-- The step of a channel at a scan that is invalid for it (R9, R11, R12). -/
structure Channel.StepsInvalid (c c' : Channel) : Prop where
  value : c'.value = c.value
  clamped : c'.clamped = false
  fresh : c.freshness = .fresh → c'.freshness = .held ∧ c'.invalidRun = 1
  held : c.freshness = .held → c.invalidRun < 4 → c'.freshness = .held ∧ c'.invalidRun = c.invalidRun + 1
  last : c.freshness = .held → c.invalidRun = 4 → c'.freshness = .stale ∧ c'.invalidRun = 5 ∧ c'.recoveryRun = 0
  stale : c.freshness = .stale → c'.freshness = .stale ∧ c'.invalidRun = 5 ∧ c'.recoveryRun = 0

/-- The step of a channel at a scan that accepts a value for it (R10, R11, R12). -/
structure Channel.StepsValid (c : Channel) (value : Int) (clamped : Bool) (c' : Channel) : Prop where
  value : c'.value = value
  clamped : c'.clamped = clamped
  usable : c.freshness ≠ .stale → c'.freshness = .fresh ∧ c'.invalidRun = 0
  recovering : c.freshness = .stale → c.recoveryRun < 2 →
    c'.freshness = .stale ∧ c'.invalidRun = c.invalidRun ∧ c'.recoveryRun = c.recoveryRun + 1
  recovered : c.freshness = .stale → c.recoveryRun = 2 → c'.freshness = .fresh ∧ c'.invalidRun = 0 ∧ c'.recoveryRun = 0

/-- A scan word of good parity: an odd number of ones among its 17 bits (R3). -/
def OddOnes (w : ScanWord) : Prop := (List.range 17).countP (fun i => w.getLsbD i) % 2 = 1

/-- The step of a channel for an examined word `w` that reads as `n`, in the range `lo` to `hi` (R9, R10). -/
structure Channel.StepsWord (w : ScanWord) (lo hi n : Int) (c c' : Channel) : Prop where
  badParity : ¬ OddOnes w → c.StepsInvalid c'
  below : OddOnes w → n < lo → c.StepsValid lo true c'
  above : OddOnes w → hi < n → c.StepsValid hi true c'
  inside : OddOnes w → lo ≤ n → n ≤ hi → c.StepsValid n false c'

/-- A header that passes R4 and R5, with a status word that passes R7: the channel words are examined. -/
structure Examined (s : State) (words : List ScanWord) : Prop where
  header : OddOnes (words.getD 0 0#17) ∧ (words.getD 0 0#17).extractLsb' 5 12 = 0xA5C#12
  sequence : ∀ e, s.scn.expected = some e → (words.getD 0 0#17).extractLsb' 1 4 = e
  status : OddOnes (words.getD 29 0#17) ∧ (words.getD 29 0#17).getLsbD 1 = false

/-- A change of a monitor's status that its event selection lets raise an event (R48). -/
def EventRaised (selection : EventSelection) (before after : Bool) : Prop :=
  (before = false ∧ after = true ∧ selection ≠ .ret) ∨ (before = true ∧ after = false ∧ selection ≠ .entry)

/-- One of a bloc's three monitors crossed as its event selection lets raise an event (R48). -/
def MonitorCrossed (c : Configuration) (before after : BlocMonitor) : Prop :=
  EventRaised c.devSelection before.devOutside after.devOutside ∨
    EventRaised c.highSelection before.highOutside after.highOutside ∨
    EventRaised c.lowSelection before.lowOutside after.lowOutside

/-- The sample set that takes `s` to `u` raises a monitor event (R48). -/
def MonitorEvents (s u : State) : Prop :=
  ∃ (i : Nat) (before after : BlocMonitor), s.mon.monitors[i]? = some before ∧ u.mon.monitors[i]? = some after ∧
    MonitorCrossed s.cfg.config before after

/-- The sample set reports full recognition: the timer steps from 7199 to 7200 (R27). -/
def Recognised (s t : State) : Prop := s.acc.fullTimer = 7199 ∧ t.acc.fullTimer = 7200

/-! ### Need and fitness (section 4.5) -/

/-- A known temperature between two limits, both included. -/
def TemperatureIn (t : Option Int) (lo hi : Int) : Prop := ∃ v, t = some v ∧ lo ≤ v ∧ v ≤ hi

/-- Fit to equalise (R65). -/
structure FitToEqualise (s : State) : Prop where
  mode : s.cfg.mode = .run
  inhibit : s.rnd.inhibit = false
  current : s.scn.current.freshness ≠ .stale
  temperature : TemperatureIn s.rnd.temperature 50 400
  discharging : s.acc.discharging = false
  lowAlert : s.mon.lowAlert = false

/-- Fit to water (R66). -/
structure FitToWater (s : State) : Prop where
  mode : s.cfg.mode = .run
  inhibit : s.rnd.inhibit = false
  dry : s.wat.dry = false
  full : s.acc.charge = s.cfg.config.capacity * 36000
  rested : s.rnd.restTimer = s.cfg.config.restHours * 3600
  temperature : TemperatureIn s.rnd.temperature 50 450

/-- Need of watering (R66). -/
def NeedsWater (s : State) : Prop := s.cfg.config.wth ≤ s.acc.deficit ∨ s.acc.forceWater = true

/-! ### The end of start-up (R190) -/

/-- `t` is the state after the change out of STARTING at the state `u`, in which the straps have settled and the
self-test has ended (R17, R93, R117, R190, R195). -/
structure StartUpEnded (u t : State) : Prop where
  silent : u.cfg.selfTest = .failed ∨ u.address = 0 ∨ u.cfg.config.nSite < u.address →
    t =
      { u with
        cfg.mode := .silent
        acc.charge := u.cfg.config.capacity * 36000
        lin.assembler := .hunt
        lin.idle := .counting u.now }
  monitorOnly : u.cfg.selfTest = .passed → 1 ≤ u.address → u.address ≤ u.cfg.config.nSite → u.cfg.failed = true →
    t =
      { u with
        cfg.mode := .monitorOnly
        clm.statusTimer := some (u.now + u.address * 400000 % (u.cfg.config.period * 1000000))
        acc.charge := u.cfg.config.capacity * 36000
        lin.assembler := .hunt
        lin.idle := .counting u.now }
  joining : u.cfg.selfTest = .passed → 1 ≤ u.address → u.address ≤ u.cfg.config.nSite → u.cfg.failed = false →
    t =
      { u with
        cfg.mode := .joining
        cfg.joiningTimer := some (u.now + (2 * u.cfg.config.period + 1) * 1000000)
        clm.statusTimer := some (u.now + u.address * 400000 % (u.cfg.config.period * 1000000))
        acc.charge := u.cfg.config.capacity * 36000
        lin.assembler := .hunt
        lin.idle := .counting u.now }

/-! ### Notices on the line -/

/-- A notice whose fields fit the fields of its frame and the table of R78. -/
def Notice.Fits (nSite : Nat) : Notice → Prop
  | .directive dest _ param => dest ≤ 24 ∧ param < 65536
  | .release source _ _ _ => 1 ≤ source ∧ source ≤ nSite
  | .claim source _ _ snapshot share => 1 ≤ source ∧ source ≤ nSite ∧ snapshot < 65536 ∧ share < 65536
  | .report source body => 1 ≤ source ∧ source ≤ nSite ∧ body.length = 24
  | .status source b =>
      1 ≤ source ∧ source ≤ nSite ∧ b.flags &&& 0xFFFC#16 = b.flags ∧ b.score < 65536 ∧ b.urgency < 65536 ∧
        (∀ p, b.eqPart = some p → p.share < 65536 ∧ p.snapshot < 65536) ∧
        ∀ p, b.waterPart = some p → p.snapshot < 65536

/-- The part takes the frame as the notice of another station (R76 to R80): it has left STARTING, the assembler is not
in HUNT, and the frame is the valid notice `n`. -/
structure Hears (s : State) (frame : List Byte) (n : Notice) : Prop where
  mode : s.cfg.mode ≠ .starting
  assembler : s.lin.assembler ≠ .hunt
  valid : decodeNotice s.cfg.config.nSite frame = some n
  other : n.source ≠ s.address

/-- The state at the end of a frame heard, or at a dominant level that breaks one off, `after` microseconds later: the
assembler in HUNT, the idle timer at 0 (R75, R76). -/
def State.frameHeard (s : State) (after : Nat) : State :=
  { s.elapse after with lin.assembler := .hunt, lin.idle := .counting (s.now + after) }

/-- The byte `b` on the line ends in `n` recessive bits: its stop bit and the 1 bits before it, least significant bit last
(R74). -/
def RecessiveEnd (b : Byte) (n : Nat) : Prop :=
  ∃ k, n = k + 1 ∧ k ≤ 8 ∧ (∀ j, j < k → b.getLsbD j = true) ∧ (k < 8 → b.getLsbD k = false)

/-- What a Status shows of the part: the round state's code and the flags bit by bit (R81, R140, R201). -/
structure StatusShows (s : State) (b : StatusBody) : Prop where
  round :
    [RoundState.float, .due, .claiming, .prepare, .transferOut, .equalising, .soak, .transferBack, .rest, .waterDue,
      .waterClaiming, .watering, .inhibited, .stuck][b.round.toNat]? = some s.rnd.round
  available : b.flags.getLsbD 15 = true ↔
    s.rnd.round ∈ [RoundState.float, .due, .claiming, .prepare, .rest, .inhibited, .waterDue, .waterClaiming, .watering]
  discharging : b.flags.getLsbD 14 = s.acc.discharging
  hold : b.flags.getLsbD 13 = s.cfg.hold
  inhibit : b.flags.getLsbD 12 = s.rnd.inhibit
  stuck : b.flags.getLsbD 11 = true ↔ s.rnd.round = .stuck
  dry : b.flags.getLsbD 10 = s.wat.dry
  uncertain : b.flags.getLsbD 9 = s.acc.uncertain
  restarted : b.flags.getLsbD 8 = s.acc.restarted
  unexplained : b.flags.getLsbD 7 = s.wat.unexplained
  devAlert : b.flags.getLsbD 6 = s.mon.devAlert
  unused : ∀ i, i < 6 → b.flags.getLsbD i = false

/-- The claim parts of a Status from the queue: a part for a claim CONTENDING or HELD, none otherwise (R81, R201). -/
structure PartsShow (s : State) (b : StatusBody) : Prop where
  eqPhase : ∀ e, b.eqPart = some e →
    (s.clm.eq.state = .contending ∧ e.phase = 1#8) ∨ (s.clm.eq.state = .held ∧ e.phase = 2#8)
  eqPart : s.clm.eq.state = .contending ∨ s.clm.eq.state = .held →
    ∃ e, b.eqPart = some e ∧ e.tag.toNat = s.clm.eq.tag ∧ e.share = s.clm.eq.share ∧ e.snapshot = s.clm.eq.snapshot
  waterPhase : ∀ e, b.waterPart = some e →
    (s.clm.water.state = .contending ∧ e.phase = 1#8) ∨ (s.clm.water.state = .held ∧ e.phase = 2#8)
  waterPart : s.clm.water.state = .contending ∨ s.clm.water.state = .held →
    ∃ e, b.waterPart = some e ∧ e.tag.toNat = s.clm.water.tag ∧ e.snapshot = s.clm.water.snapshot

/-- The number in the `n` bytes of a body from byte `i` on, high byte first (R201). -/
def fieldAt (body : List Byte) (i n : Nat) : Nat :=
  ((body.drop i).take n).foldl (fun v b => v * 256 + b.toNat) 0

/-- A last-round record in short form: outcome and cause codes and the minutes, all 0 for an empty one (R200, R201). -/
structure RecordShown (r : Option LastRecord) (code minutes : Nat) : Prop where
  empty : r = none → code = 0 ∧ minutes = 0
  outcome : ∀ l, r = some l → 1 ≤ code / 16 ∧
    [RoundOutcome.complete, .timedOut, .aborted, .yielded, .dry, .conflict][code / 16 - 1]? = some l.outcome
  cause : ∀ l, r = some l →
    [none, some AbortCause.charger, some .transfer, some .position, some .currentStale, some .temperature, some .stop,
      some .line, some .clash][code % 16]? = some l.cause
  minutes : ∀ l, r = some l → minutes = l.minutes

/-- The account snapshot of a Report, byte by byte (R15, R25, R32, R200, R201). -/
structure ReportShows (s : State) (body : List Byte) : Prop where
  length : body.length = 24
  charge : fieldAt body 0 3 = s.acc.charge / 360
  discharged : fieldAt body 3 3 = s.acc.discharged / 360
  deficit : fieldAt body 6 2 = s.acc.deficit / 1000
  hours : fieldAt body 8 2 = s.acc.hours
  terms : fieldAt body 10 2 = s.acc.tt ∧ fieldAt body 12 2 = s.acc.tq ∧ fieldAt body 14 2 = s.acc.ts
  lastEq : RecordShown s.rnd.lastEq (fieldAt body 16 1) (fieldAt body 17 2)
  lastWater : RecordShown s.rnd.lastWater (fieldAt body 19 1) (fieldAt body 20 2)
  flags : ∀ i flag, (i, flag) ∈ [(7, s.rnd.inhibit), (6, s.wat.dry), (5, s.acc.uncertain), (4, s.acc.restarted),
    (3, s.cfg.clamped), (2, s.wat.unexplained), (1, s.acc.forceEq), (0, s.acc.forceWater)] →
    (body.getD 22 0#8).getLsbD i = flag
  stale : fieldAt body 23 1 = s.scn.staleCount

/-- A Status whose contents PTB accepts (R97). -/
structure StatusBody.Acceptable (b : StatusBody) : Prop where
  mode : b.mode = 1#8 ∨ b.mode = 2#8 ∨ b.mode = 3#8
  round : b.round.toNat ≤ 13
  score : b.score ≤ 1000
  urgency : b.urgency ≤ 1000
  eqPart : ∀ p, b.eqPart = some p → p.tag ≠ 0#8 ∧ (p.phase = 1#8 ∨ p.phase = 2#8) ∧ p.snapshot ≤ 1000
  waterPart : ∀ p, b.waterPart = some p → p.tag ≠ 0#8 ∧ (p.phase = 1#8 ∨ p.phase = 2#8) ∧ p.snapshot ≤ 1000

/-- A Status requested where the queue takes notices, and nothing else (R116). -/
def State.statusAsked (s : State) : State :=
  { s with clm.statusQueued := s.clm.statusQueued || queueOpen s.cfg.mode }

/-! ### A sample set before the round acts on it -/

/-- `u` is the state `s` with a sample set's measurements, figures, temperature and rest timer taken in, and nothing
else but a Status request (R14, R18, R43, R48, R62, R63). -/
structure Measured (ends : Nat) (s u : State) : Prop where
  form : u =
    { s with
      now := max s.now ends
      scn := u.scn
      mon := u.mon
      acc := u.acc
      clm.statusQueued := u.clm.statusQueued
      rnd.temperature := u.rnd.temperature
      rnd.restTimer := u.rnd.restTimer }
  force : u.acc.forceEq = s.acc.forceEq ∧ u.acc.forceWater = s.acc.forceWater
  request : u.clm.statusQueued = true ↔
    s.clm.statusQueued = true ∨ (queueOpen s.cfg.mode = true ∧ MonitorEvents s u)

/-! ### Moves of the equalising round -/

/-- TRANSFER_BACK entered with the outcome and the cause written into the open record `r` (R141, R156). -/
def State.backEntered (s : State) (r : OpenRecord) (o : RoundOutcome) (c : Option AbortCause) : State :=
  { s with
    rnd.round := .transferBack
    rnd.record := some { r with outcome := some o, cause := c }
    rnd.duty := 0
    rnd.applied := 0
    rnd.pendingValid := false
    fld.pwmDuty := 0 }

/-- TRANSFER_BACK entered with the current wait of 5 s (R156). -/
def State.sentBack (s : State) (r : OpenRecord) (o : RoundOutcome) (c : Option AbortCause) : State :=
  { s.backEntered r o c with rnd.currentWait := some (s.now + 5000000) }

/-- `t` is `s` after the end of an equalising round opened at `openedAt` with outcome `o` and cause `c` (R35, R37, R133,
R141, R142, R159, R160). -/
structure EqualiseEnded (o : RoundOutcome) (c : Option AbortCause) (openedAt : Nat) (s t : State) : Prop where
  form : t =
    { s with
      acc :=
        { s.acc with
          forceEq := false
          forceWater := false
          hours := t.acc.hours
          discharged := t.acc.discharged
          restarted := t.acc.restarted }
      clm := { s.clm with eq := t.clm.eq, statusQueued := t.clm.statusQueued }
      rnd :=
        { s.rnd with
          round := t.rnd.round
          record := none
          lastEq := some { outcome := o, cause := c, minutes := min 65535 ((s.now - openedAt) / 60000000) }
          demand := false
          applied := 0
          pendingValid := false
          restPeriod := t.rnd.restPeriod } }
  equalised : o = .complete ∨ o = .timedOut → t.acc.hours = 0 ∧ t.acc.discharged = 0 ∧ t.acc.restarted = false
  notEqualised : o ≠ .complete → o ≠ .timedOut →
    t.acc.hours = s.acc.hours ∧ t.acc.discharged = s.acc.discharged ∧ t.acc.restarted = s.acc.restarted
  released : s.clm.eq.state = .held →
    t.clm.eq = { s.clm.eq with state := .releasing, reason := t.clm.eq.reason, yielding := false } ∧
      (o = .complete ∨ o = .timedOut → t.clm.eq.reason = .done) ∧ (o = .yielded → t.clm.eq.reason = .yielded) ∧
      (o = .aborted → t.clm.eq.reason = .aborted)
  notHeld : s.clm.eq.state ≠ .held → t.clm.eq = s.clm.eq
  inhibited : s.rnd.inhibit = true →
    t.rnd.round = .inhibited ∧ t.rnd.restPeriod = s.rnd.restPeriod ∧
      t.clm.statusQueued = (s.clm.statusQueued || queueOpen s.cfg.mode)
  rest : s.rnd.inhibit = false → o = .complete ∨ o = .timedOut →
    t.rnd.round = .rest ∧ t.rnd.restPeriod = some (s.now + s.cfg.config.restHours * 3600000000) ∧
      t.clm.statusQueued = s.clm.statusQueued
  float : s.rnd.inhibit = false → o ≠ .complete → o ≠ .timedOut →
    t.rnd.round = .float ∧ t.rnd.restPeriod = s.rnd.restPeriod ∧ t.clm.statusQueued = s.clm.statusQueued

/-- STUCK entered: the latch set, the share of a HELD claim 0 with a Status requested (R137, R157, R161). -/
def State.stuckEntered (s : State) : State :=
  { s with
    rnd.inhibit := true
    rnd.round := .stuck
    rnd.transferFrom := none
    rnd.recoveryCheck := none
    clm.eq := if s.clm.eq.state = .held then { s.clm.eq with share := 0 } else s.clm.eq
    clm.statusQueued := s.clm.statusQueued || (decide (s.clm.eq.state = .held) && queueOpen s.cfg.mode) }

/-- Float commanded with a recovery check of 250 ms, whose success `latches` the inhibit latch; with FB at float already
the check succeeds at once and the round of record `r` ends (R145, R150). -/
structure RecoveryStarted (latches : Bool) (o : RoundOutcome) (c : Option AbortCause) (openedAt : Nat)
    (s t : State) : Prop where
  away : s.fld.fb.active = true →
    t =
      { s with
        rnd.relay := .float
        rnd.currentWait := none
        rnd.transferFrom := none
        rnd.recoveryCheck := some { ends := s.now + 250000, latches := latches } }
  already : s.fld.fb.active = false →
    EqualiseEnded o c openedAt
      { s with
        rnd.relay := .float
        rnd.currentWait := none
        rnd.transferFrom := none
        rnd.recoveryCheck := none
        rnd.inhibit := s.rnd.inhibit || latches } t

/-- Float commanded with a transfer window; with FB at float already the move is early, and STUCK follows
(R144, R156, R157). -/
structure WindowStarted (s t : State) : Prop where
  away : s.fld.fb.active = true →
    t = { s with rnd.relay := .float, rnd.currentWait := none, rnd.transferFrom := some s.now }
  already : s.fld.fb.active = false →
    t = State.stuckEntered { s with rnd.relay := .float, rnd.currentWait := none }

/-! ### The end of a watering round -/

/-- The record of group `g` after a watering round end (R177). -/
structure GroupClosed (s : State) (g : Fin 8) (r : GroupRecord) : Prop where
  disabled : s.cfg.config.groupCount ≤ g.val → r = s.group g
  kept : r.target = (s.group g).target ∧ r.cap = (s.group g).cap ∧ r.dosed = (s.group g).dosed
  listed : g.val < s.cfg.config.groupCount → g ∈ s.wat.plan →
    r.outcome = .notReached ∧ r.carried = min 999999 ((s.group g).target - (s.group g).dosed * 1000)
  filled : g.val < s.cfg.config.groupCount → g ∉ s.wat.plan →
    (s.group g).outcome = .full ∨ (s.group g).outcome = .alreadyFull ∨ (s.group g).outcome = .capped ∨
      (s.group g).outcome = .dosed → r.outcome = (s.group g).outcome ∧ r.carried = 0
  leftOut : g.val < s.cfg.config.groupCount → g ∉ s.wat.plan → (s.group g).outcome = .none →
    r.outcome = .none ∧ r.carried = min 999999 (s.group g).target

/-- `t` is `s` after the end of a watering round opened at `openedAt` with outcome `o` and cause `c` (R36, R37, R133,
R165, R169, R176, R177); which timers stop is log entry 16. -/
structure WateringEnded (o : RoundOutcome) (c : Option AbortCause) (openedAt : Nat) (s t : State) : Prop where
  form : t =
    { s with
      acc :=
        { s.acc with forceEq := false, forceWater := false, gassing := 0, deficit := 0, urgency := 0 }
      clm := { s.clm with water := t.clm.water, statusQueued := t.clm.statusQueued }
      rnd :=
        { s.rnd with
          round := t.rnd.round
          record := none
          lastWater := some { outcome := o, cause := c, minutes := min 65535 ((s.now - openedAt) / 60000000) } }
      wat :=
        { s.wat with
          groups := t.wat.groups
          plan := []
          valve := none
          openPeriod := none
          earlyLimit := none
          flowWindow := none
          offTime := none
          drainGrace := if s.wat.valve.isSome then some (s.now + 3000000) else s.wat.drainGrace
          closedPeriod := false
          roundLimit := none } }
  groups : t.wat.groups.length = s.wat.groups.length ∧ (s.wat.groups.length = 8 → ∀ g, GroupClosed s g (t.group g))
  released : s.clm.water.state = .held →
    t.clm.water = { s.clm.water with state := .releasing, reason := t.clm.water.reason, yielding := false } ∧
      (o = .complete ∨ o = .timedOut → t.clm.water.reason = .done) ∧ (o = .yielded → t.clm.water.reason = .yielded) ∧
      (o = .dry ∨ o = .conflict ∨ o = .aborted → t.clm.water.reason = .aborted)
  notHeld : s.clm.water.state ≠ .held → t.clm.water = s.clm.water
  inhibited : s.rnd.inhibit = true →
    t.rnd.round = .inhibited ∧ t.clm.statusQueued = (s.clm.statusQueued || queueOpen s.cfg.mode)
  float : s.rnd.inhibit = false → t.rnd.round = .float ∧ t.clm.statusQueued = s.clm.statusQueued

/-! ### The move out -/

/-- `t` is `s` after a failed move out, with the open record `r`: ABORTED with cause TRANSFER, back with a recovery check
whose success latches the inhibit (R145, R150). -/
def MoveOutFailed (r : OpenRecord) (s t : State) : Prop :=
  RecoveryStarted true .aborted (some .transfer) r.openedAt
    (State.backEntered { s with rnd.transferFrom := none, rnd.deferred := none } r .aborted (some .transfer)) t

/-- `t` is `s` after the entry to TRANSFER_OUT, with the open record `r`: equalise commanded and the window started, or,
with FB at equalise already, an early move (R144, R147, R148, R149, R150). -/
structure TransferOutEntered (r : OpenRecord) (s t : State) : Prop where
  away : s.fld.fb.active = false →
    t =
      { s with
        rnd.round := .transferOut
        rnd.chargerWait := none
        rnd.relay := .equalise
        rnd.deferred := none
        rnd.transferFrom := some s.now }
  already : s.fld.fb.active = true →
    MoveOutFailed r { s with rnd.round := .transferOut, rnd.chargerWait := none, rnd.relay := .equalise } t

/-! ### The plan and its pulses -/

/-- The probe of group `g` is enabled and reads wet (R163). -/
def ProbeWet (s : State) (g : Fin 8) : Prop :=
  g.val < s.cfg.config.groupCount ∧ s.cfg.config.probeEnable.getLsbD g.val = true ∧
    (s.fld.line (.prb g)).active = true

/-- The probe of group `g` is disabled (R163). -/
def ProbeDisabled (s : State) (g : Fin 8) : Prop :=
  s.cfg.config.groupCount ≤ g.val ∨ s.cfg.config.probeEnable.getLsbD g.val = false

/-- A dose pulse of group `g` opened: the valve, the open period, the early-flow limit of 200 ms and the flow window of
4 s (R169); a drain grace that still runs is stopped (log entry 16). -/
def State.pulseOpened (s : State) (g : Fin 8) : State :=
  { s with
    wat.valve := some g
    wat.openPeriod := some (s.now + s.cfg.config.onSeconds * 1000000)
    wat.earlyLimit := some (s.now + 200000)
    wat.flowWindow := some (s.now + 4000000)
    wat.offTime := none
    wat.drainGrace := none
    wat.closedPeriod := false
    wat.closedEarly := false }

/-- The valve of a dose pulse closed: the drain grace of 3 s and the closed period start (R169). -/
def State.pulseClosed (s : State) : State :=
  { s with
    wat.valve := none
    wat.openPeriod := none
    wat.drainGrace := some (s.now + 3000000)
    wat.offTime := some (s.now + s.cfg.config.offSeconds * 1000000)
    wat.closedPeriod := true }

/-- The outcome of group `g` decided (R168, R173). -/
def State.groupDecided (s : State) (g : Fin 8) (o : GroupOutcome) : State :=
  s.withGroup g { s.group g with outcome := o }

/-- `t` is `s` after the groups of `list` are started, in a round opened at `openedAt`: the wet ones at the head are passed
over as ALREADY_FULL, the first other opens its pulse, and with none left the round ends COMPLETE (R168). -/
def GroupsStarted (openedAt : Nat) (list : List (Fin 8)) (s t : State) : Prop :=
  ∃ wet rest, list = wet ++ rest ∧ (∀ g ∈ wet, ProbeWet s g) ∧
    (∀ g tail, rest = g :: tail → ¬ ProbeWet s g ∧
      t = State.pulseOpened { wet.foldl (State.groupDecided · · .alreadyFull) s with wat.plan := rest } g) ∧
    (rest = [] →
      WateringEnded .complete none openedAt
        { wet.foldl (State.groupDecided · · .alreadyFull) s with wat.plan := [] } t)

/-- The record of group `g` set afresh at the plan (R164, R167). -/
structure GroupPlanned (s : State) (g : Fin 8) (r : GroupRecord) : Prop where
  enabled : g.val < s.cfg.config.groupCount → ∀ target,
    target = s.cfg.config.cells.getD g.val 0 * s.acc.deficit + (s.group g).carried →
    r = { carried := (s.group g).carried, target := target, cap := target * 3 / 2, dosed := 0, outcome := .none }
  disabled : s.cfg.config.groupCount ≤ g.val → r = s.group g

/-- The group list of a plan over the records of `s` (R167). -/
structure PlanMade (s : State) (list : List (Fin 8)) : Prop where
  entries : ∀ g, g ∈ list ↔ g.val < s.cfg.config.groupCount ∧ 1000 * s.cfg.config.vFlow ≤ (s.group g).target
  order : list.Pairwise fun g h =>
    (s.group h).target < (s.group g).target ∨ ((s.group g).target = (s.group h).target ∧ g.val < h.val)

/-- `t` is `s` after a test of the closed period, in a round opened at `openedAt`: it ends once the off time, the drain
grace and the flow window have all ended, and the head group of the plan is decided (R169, R173). -/
structure ClosedPeriodTested (openedAt : Nat) (s t : State) : Prop where
  goesOn : s.wat.closedPeriod = false ∨ s.wat.offTime.isSome = true ∨ s.wat.drainGrace.isSome = true ∨
    s.wat.flowWindow.isSome = true → t = s
  decided : s.wat.closedPeriod = true → s.wat.offTime = none → s.wat.drainGrace = none → s.wat.flowWindow = none →
    ∀ g rest, s.wat.plan = g :: rest →
      (ProbeWet s g → GroupsStarted openedAt rest (s.groupDecided g .full) t) ∧
      (¬ ProbeWet s g → (s.group g).cap ≤ (s.group g).dosed * 1000 →
        GroupsStarted openedAt rest (s.groupDecided g .capped) t) ∧
      ((s.group g).dosed * 1000 < (s.group g).cap → ProbeDisabled s g →
        (s.group g).target ≤ (s.group g).dosed * 1000 →
        GroupsStarted openedAt rest (s.groupDecided g .dosed) t) ∧
      (¬ ProbeWet s g → (s.group g).dosed * 1000 < (s.group g).cap →
        (¬ ProbeDisabled s g ∨ (s.group g).dosed * 1000 < (s.group g).target) → t = s.pulseOpened g)

/-! ### Leaving the line -/

/-- RND at a change of the mode to ISOLATED or SILENT, from `q` to `v`, with the open record `r` (R71, R158, R175). -/
structure RoundLosesLine (cause : AbortCause) (q v : State) : Prop where
  waiting : q.rnd.round = .due ∨ q.rnd.round = .waterDue ∨ q.rnd.round = .claiming ∨ q.rnd.round = .waterClaiming →
    v = { q with rnd.round := .float }
  idle : q.rnd.round = .float ∨ q.rnd.round = .rest ∨ q.rnd.round = .inhibited ∨ q.rnd.round = .stuck → v = q
  prepare : q.rnd.round = .prepare → ∀ r, q.rnd.record = some r → r.outcome = none →
    EqualiseEnded .aborted (some cause) r.openedAt { q with rnd.chargerWait := none } v
  movingOut : q.rnd.round = .transferOut → ∀ r, q.rnd.record = some r → r.outcome = none →
    RecoveryStarted false .aborted (some cause) r.openedAt
      (State.backEntered { q with rnd.deferred := none } r .aborted (some cause)) v
  working : q.rnd.round = .equalising ∨ q.rnd.round = .soak → ∀ r, q.rnd.record = some r → r.outcome = none →
    WindowStarted (q.backEntered r .aborted (some cause)) v
  goingBack : q.rnd.round = .transferBack →
    (q.rnd.currentWait.isSome = true → WindowStarted q v) ∧ (q.rnd.currentWait = none → v = q)
  watering : q.rnd.round = .watering → ∀ r, q.rnd.record = some r → r.outcome = none →
    WateringEnded .aborted (some cause) r.openedAt q v

/-- `t` is `u` after the entry to ISOLATED or SILENT, in the order of R89 (R71, R89, R92, R138, R158, R175). -/
def LeavesLine (mode : NodeMode) (cause : AbortCause) (u t : State) : Prop :=
  ∃ v,
    RoundLosesLine cause
      { u with
        cfg.mode := mode
        cfg.joiningTimer := none
        clm.statusTimer := none
        lin.attempt := none
        lin.recovering := false
        lin.isolationTimer := none } v ∧
    t =
      { v with
        clm.eq := { v.clm.eq with state := .none, windowTimer := none, yielding := false }
        clm.water := { v.clm.water with state := .none, windowTimer := none, yielding := false }
        clm.reportQueued := false
        clm.statusQueued := false
        clm.history := []
        clm.lowRun := 0
        lin.retry := 0
        lin.isolationTimer := if mode = .isolated then some (u.now + 60000000) else none }

/-! ### Edges of a level input -/

/-- The stability timer of input `i` expires at `d` with the raw level differing from the debounced one: an edge to
`level` (R181, R182). -/
structure EdgeComes (s : State) (i : LevelInput) (d : Nat) (level : Bool) : Prop where
  timer : (s.fld.line i).timer = some d
  raw : xor (s.fld.line i).pinHigh (inputInverted s.cfg.config i) = level
  differs : (s.fld.line i).active = !level

/-- The state in which that edge is handed on: the debounced level follows the raw level (R181). -/
def State.settled (s : State) (i : LevelInput) (d : Nat) (level : Bool) : State :=
  { s.reach d with
    fld := s.fld.withLine i { s.fld.line i with active := level, timer := none } }

/-! ### The line's own machinery -/

/-- `t` is `u` after one more failure of the waiting or sent notice (R88, R89, R91; log entry 17). -/
structure FailureCounted (u t : State) : Prop where
  recovery : u.lin.recovering = true →
    t = { u with lin.recovering := false, lin.retry := 0, lin.isolationTimer := some (u.now + 60000000) }
  counted : u.lin.recovering = false → u.lin.retry ≤ 6 → t = { u with lin.retry := u.lin.retry + 1 }
  fault : u.lin.recovering = false → u.lin.retry = 7 → LeavesLine .isolated .line u t

/-- A claim of a resource withdrawn while CONTENDING: RELEASING with reason WITHDRAWN, and the back-off started at its
full value (R119, R129, R130). -/
def State.withdrawn (s : State) (r : Resource) : State :=
  { s with
    clm :=
      (s.clm.withMachine r
        { s.clm.machine r with state := .releasing, reason := .withdrawn, windowTimer := none }).withBackOff r
        (some (s.now + s.cfg.config.window * (1 + s.address % 4) * 1000000)) }

/-- A claim of a resource taken out of the queue: the machine NONE, nothing sent (R129). -/
def State.unqueued (s : State) (r : Resource) : State :=
  { s with clm := s.clm.withMachine r { s.clm.machine r with state := .none } }

/-- The back-off of a resource started, or restarted, at its full value (R119, R130). -/
def State.backingOff (s : State) (r : Resource) : State :=
  { s with clm := s.clm.withBackOff r (some (s.now + s.cfg.config.window * (1 + s.address % 4) * 1000000)) }

/-- The frame commands of the table with their time and bytes (log entry 5). -/
def FrameCommand (c : Instr) (after : Nat) (frame : List Byte) : Prop :=
  c = .statusNotice after frame ∨ c = .claimNotice after frame ∨ c = .releaseNotice after frame ∨
    c = .reportNotice after frame ∨ c = .hold after frame ∨ c = .stop after frame ∨ c = .forceEq after frame ∨
    c = .forceWater after frame ∨ c = .clear after frame ∨ c = .query after frame

/-! ### The peer table after a notice -/

/-- The table `after` holds the record `p` for its address and every other record of `before` (R95, R98). -/
def PeerWritten (before after : List PeerRecord) (p : PeerRecord) : Prop :=
  findPeer after p.address = some p ∧ ∀ a, a ≠ p.address → findPeer after a = findPeer before a

/-- The record a notice of `source` applies to: the one held or a new one, its age 0 (R98, R99). -/
structure RecordRenewed (ptb : List PeerRecord) (source : Nat) (p : PeerRecord) : Prop where
  held : ∀ q, findPeer ptb source = some q → p = { q with age := 0 }
  created : findPeer ptb source = none →
    p =
      { address := source, mode := .unreported, available := false, discharging := false, eqClaim := none,
        waterClaim := none, age := 0 }

/-- A record in reserve: FRESH, available, not discharging and reported (R106, R108). -/
def InReserve (s : State) (p : PeerRecord) : Prop :=
  p.age ≤ 3 * s.cfg.config.period ∧ p.available = true ∧ p.discharging = false ∧ p.mode ≠ .unreported

/-- The own EQ claim does not conflict with the claim of `share` in the record `p`, which the table holds (R125). -/
structure NoConflict (s : State) (p : PeerRecord) (share : Nat) : Prop where
  reserve : ∀ unclaimed own peer : Nat,
    unclaimed = s.ptb.countP (fun q =>
      q.age ≤ 3 * s.cfg.config.period ∧ q.available = true ∧ q.discharging = false ∧ q.mode ≠ .unreported ∧
        q.eqClaim = none) →
    (s.acc.discharging = false → own = 1) → (s.acc.discharging = true → own = 0) →
    (InReserve s p → peer = 1) → (¬ InReserve s p → peer = 0) →
    s.cfg.config.rMin + 2 ≤ unclaimed + own + peer
  charger : ∀ committed : Nat,
    committed = (s.ptb.map fun q => match q.eqClaim with | some c => c.share | none => 0).sum →
    committed - share + s.clm.eq.share + share ≤ s.cfg.config.eBus

/-- Between claims of the same phase the higher snapshot outranks, between equal ones the lower address (R127). -/
def Outranks (snapshot address snapshot' address' : Nat) : Prop :=
  snapshot' < snapshot ∨ (snapshot = snapshot' ∧ address < address')

end Sys2Proof.Machine
end

