-- ==== Sys2Proof/Certificates/Slice0/Obligations.lean ====
section
/-! DEFINITION. The statements for the provers. Each follows rules of spec/; a clause that rests on a choice of the model
names the log entry (notes/assumptions). -/

section Statements

open Sys2Proof Sys2Proof.Machine

/-! ### The machine as a whole -/

/-- A step runs the command at the front of the queue on the state with the queue's rest; that an empty queue idles is
the model's choice (log entry 2). -/
def Obligations.StepRunsFrontCommand : Prop :=
  (∀ (c : Instr) (rest : List Instr) (s : State),
      step { s with pending := c :: rest } = exec c { s with pending := rest }) ∧
    ∀ s : State, s.pending = [] → step s = .next s

/-- Every command completes in every state, leaves the waiting commands alone and, but for RESET, never turns the time
base back; from the end of the configuration read, and from the settling of the straps, the configuration in force, its
markers and the station address stand until the next reset (R184, R191). -/
def Obligations.EveryCommandCompletes : Prop :=
  ∀ (c : Instr) (s : State),
    ∃ t, exec c s = .next t ∧ t.pending = s.pending ∧
      (c ≠ .reset →
        s.now ≤ t.now ∧
        (s.cfg.readEnded = true →
          t.cfg.readEnded = true ∧ t.cfg.config = s.cfg.config ∧ t.cfg.failed = s.cfg.failed ∧
            t.cfg.clamped = s.cfg.clamped) ∧
        ∀ a, s.cfg.address = some a → t.cfg.address = some a)

/-- The output pins follow the state: RLY the relay command, each valve line its valve, DMD the charger demand or the
always-on setting in RUN, ALM its conditions in the polarity in force, LIM the first duty counts of its period, TXD the
dominant bits of the own attempt, the selects the scan in progress and the configuration read with its request; and by the
coherence of the round RLY is active only under a HELD EQ claim, at most one valve is open, only in WATERING under a HELD
WATER claim, and LIM works only in EQUALISING and SOAK (R1, R2, R73, R74, R143, R154, R161, R168, R185, R186, R187, R188,
R191). The model's own, both log entry 19: the bit that TXD shows is the whole bit times since the attempt's start, rounded
down from the time base; and past a period whose PWM_PERIOD_START has not been taken LIM is inactive. -/
def Obligations.OutputsFollowTheState : Prop :=
  ∀ s : State,
    (s.rly = true ↔ s.rnd.relay = .equalise) ∧ (∀ g, s.vlv g = true ↔ s.wat.valve = some g) ∧
    (s.dmd = true ↔ s.rnd.demand = true ∨ (s.cfg.config.alwaysOn = true ∧ s.cfg.mode = .run)) ∧
    (s.alm = true ↔
      s.cfg.mode = .starting ∨ s.cfg.mode = .monitorOnly ∨ s.cfg.mode = .isolated ∨ s.cfg.mode = .silent ∨
        s.rnd.inhibit = true ∨ s.rnd.round = .stuck ∨ s.wat.dry = true) ∧
    (s.cfg.readEnded = true ∧ s.cfg.config.almActiveHigh = true → (s.almDrivenLow = true ↔ s.alm = false)) ∧
    (s.cfg.readEnded = false ∨ s.cfg.config.almActiveHigh = false → (s.almDrivenLow = true ↔ s.alm = true)) ∧
    (∀ count, s.now = s.fld.pwmStart + count → (s.lim = true ↔ count < s.fld.pwmDuty)) ∧
    (s.txdHigh = false ↔
      ∃ (a : Attempt) (i j : Nat) (b : Byte), s.lin.attempt = some a ∧ a.frame[i]? = some b ∧
        (s.now - a.start) * 19200 / 1000000 = 10 * i + j ∧
        (j = 0 ∨ (1 ≤ j ∧ j ≤ 8 ∧ b.getLsbD (8 - j) = false))) ∧
    (s.firstSelect = true ↔ s.scn.scanEnds.isSome = true) ∧ (s.secondSelect = true ↔ s.cfg.readEnded = false) ∧
    (ValuesInRange s → ¬ (s.firstSelect = true ∧ s.secondSelect = true)) ∧
    (∀ i, i = s.now / 4 →
      (s.cfg.readEnded = false → i < 24 → s.requestBit = some (0x030000#24 |>.getMsbD i)) ∧
      (s.cfg.readEnded = true ∨ 24 ≤ i → s.requestBit = none)) ∧
    (Coherent s →
      (s.rly = true → s.clm.eq.state = .held) ∧
      (∀ g, s.vlv g = true →
        s.rnd.round = .watering ∧ s.clm.water.state = .held ∧ ∀ g', s.vlv g' = true → g' = g) ∧
      (s.lim = true → s.rnd.round = .equalising ∨ s.rnd.round = .soak) ∧ (s.rnd.round = .stuck → s.dmd = true))

/-- RESET brings every block to its reset state (R16, R39, R55, R72, R94, R112, R139, R162, R179, R189, R190), and the
reset state is one that RESET leaves as it is. The pins and the waiting commands belong to the outside and stay
(log entry 8); the model counts its resets (log entry 27). -/
def Obligations.ResetRestartsThePart : Prop :=
  exec .reset State.reset = .next { State.reset with resets := 1 } ∧
  ∀ s : State, ∃ t, exec .reset s = .next t ∧
    t.now = 0 ∧ t.nextSecond = 1000000 ∧ t.nextHour = 3600000000 ∧ t.pending = s.pending ∧ t.resets = s.resets + 1 ∧
    (t.cfg.mode = .starting ∧ t.cfg.address = none ∧ t.cfg.readEnded = false ∧ t.cfg.failed = false ∧
      t.cfg.clamped = false ∧ t.cfg.hold = false ∧ t.cfg.holdTimer = none ∧ t.cfg.joiningTimer = none) ∧
    (t.scn.scanEnds = none ∧ t.scn.buffer = List.replicate 30 0#17 ∧ t.scn.expected = none ∧
      ∀ c, c ∈ t.scn.blocs ∨ c = t.scn.current ∨ c = t.scn.voltage ∨ c = t.scn.pilot ∨ c = t.scn.ambient →
        c = { value := 0, freshness := .stale, invalidRun := 5, recoveryRun := 0, clamped := false }) ∧
    (t.acc.charge = t.cfg.config.capacity * 36000 ∧ t.acc.gassing = 0 ∧ t.acc.deficit = 0 ∧ t.acc.urgency = 0 ∧
      t.acc.discharged = 0 ∧ t.acc.hours = 0 ∧ t.acc.fullTimer = 0 ∧ t.acc.dischargeRun = 0 ∧ t.acc.recoveryRun = 0 ∧
      t.acc.discharging = false ∧ t.acc.uncertain = false ∧ t.acc.restarted = true ∧ t.acc.forceEq = false ∧
      t.acc.forceWater = false ∧ t.acc.tt = 0 ∧ t.acc.tq = 0 ∧ t.acc.ts = 0) ∧
    ((∀ m ∈ t.mon.monitors, m.devOutside = false ∧ m.highOutside = false ∧ m.lowOutside = false) ∧
      t.mon.mean = none ∧ t.mon.spread = none ∧ t.mon.devAlert = false ∧ t.mon.lowAlert = false ∧
      t.mon.foldBack = false ∧ t.mon.spreadSum = 0 ∧ t.mon.spreadCount = 0 ∧ t.mon.sFloat = 0 ∧
      t.mon.sFloatValid = false ∧ t.mon.band = false) ∧
    (t.lin.attempt = none ∧ t.engine = .quiet ∧ t.lin.retry = 0 ∧ t.lin.assembler = .hunt ∧ t.idleTimer = 0 ∧
      t.lin.isolationTimer = none ∧ t.txdHigh = true) ∧
    (t.ptb = [] ∧ availableUnclaimed t.cfg.config.period t.ptb = 0 ∧ committedShare t.ptb = 0 ∧
      waterOccupied t.ptb = false) ∧
    (∀ r, (t.clm.machine r).state = .none ∧ (t.clm.machine r).yielding = false ∧
      (t.clm.machine r).windowTimer = none ∧ t.clm.backOff r = none) ∧
    (t.clm.queueHead = none ∧ t.clm.nextTag = 1 ∧ t.clm.statusTimer = none ∧ t.clm.history = [] ∧ t.clm.lowRun = 0) ∧
    (t.rnd.round = .float ∧ t.rnd.relay = .float ∧ t.rnd.duty = 0 ∧ t.rnd.demand = false ∧ t.rnd.applied = 0 ∧
      t.rnd.pending = 0 ∧ t.rnd.pendingValid = false ∧ t.rnd.record = none ∧ t.rnd.lastEq = none ∧
      t.rnd.lastWater = none ∧ t.rnd.inhibit = false ∧ t.rnd.chargerWait = none ∧ t.rnd.transferFrom = none ∧
      t.rnd.recoveryCheck = none ∧ t.rnd.currentWait = none ∧ t.rnd.restPeriod = none ∧ t.rnd.elapsed = 0 ∧
      t.rnd.bandTimer = 0 ∧ t.rnd.deferred = none ∧ t.rnd.temperature = none ∧ t.rnd.restTimer = 0) ∧
    (t.wat.valve = none ∧ t.wat.plan = [] ∧
      (∀ g, t.group g = { carried := 0, target := 0, cap := 0, dosed := 0, outcome := .none }) ∧ t.wat.noFlow = 0 ∧
      t.wat.roundLimit = none ∧ t.wat.openPeriod = none ∧ t.wat.offTime = none ∧ t.wat.drainGrace = none ∧
      t.wat.flowWindow = none ∧ t.wat.earlyLimit = none ∧ t.wat.closedPeriod = false ∧ t.wat.dry = false ∧
      t.wat.dryTimer = none ∧ t.wat.unexplained = false) ∧
    (t.rly = false ∧ t.lim = false ∧ t.dmd = false ∧ t.alm = true ∧ t.almDrivenLow = true ∧ t.fld.pwmStart = 0 ∧
      t.fld.strapTimer = some 20000 ∧
      t.fld.flow = .spent ∧ t.fld.flowTimer = none ∧ t.fld.flowPinHigh = s.fld.flowPinHigh ∧
      ∀ i, t.vlv = (fun _ => false) ∧ (t.fld.line i).active = false ∧ (t.fld.line i).timer = none ∧
        (t.fld.line i).pinHigh = (s.fld.line i).pinHigh)

/-- The reset state meets the five invariants that every step keeps. -/
def Obligations.ResetMeetsInvariants : Prop :=
  ModesKept State.reset ∧ Coherent State.reset ∧ PeersKept State.reset ∧ ValuesInRange State.reset ∧
    SharesInOrder State.reset

/-! ### Invariants that every step keeps -/

/-- Every step keeps the node mode and what goes with it: the station address and the read after STARTING, the joining,
isolation and Status period timers by mode, the attempts a mode allows, the hold with its timer (R82, R90, R91, R93, R117,
R190, R195, R198). -/
def Obligations.ModesStayKept : Prop :=
  ∀ s t : State, ModesKept s → step s = .next t → ModesKept t

/-- Every step keeps the round coherent: a claim is HELD in the working states of its round and QUEUED or CONTENDING
exactly in its claiming state, only in RUN; the relay is at equalise and the duty above 0 only in the states that allow it;
the demand is on from hold to round end; at most one valve is open, only in WATERING (R113, R138, R142, R143, R147, R154,
R159, R161, R168). -/
def Obligations.RoundStaysCoherent : Prop :=
  ∀ s t : State, ModesKept s → Coherent s → step s = .next t → Coherent t

/-- Every step keeps the peer table: at most one record per address, none for the own address or outside 1 to N_site,
every age at most 6P, every claim with a tag of 1 to 255 and a snapshot of at most 1000, and no record in STARTING (R95,
R96, R107, R111). -/
def Obligations.PeersStayKept : Prop :=
  ∀ s t : State, ModesKept s → PeersKept s → step s = .next t → PeersKept t

/-- Every step keeps every counted value in the range the spec gives it: the configuration, channels, account, terms,
tags, snapshots, shares with the applied and the pending one, retry count, idle timer, duty, timers, history, the group
records with target and cap, the no-flow count and the records (R10, R17, R24, R30, R31, R32, R60, R75, R88, R113, R141,
R151, R154, R164, R171). -/
def Obligations.ValuesStayInRange : Prop :=
  ∀ s t : State, Coherent s → ValuesInRange s → step s = .next t → ValuesInRange t

/-- Every step keeps the shares in order, so that a regulator step never works to more than the share of the HELD claim;
and while an EQ claim stays HELD its tag and snapshot stand and its share never grows (R113, R123, R136, R137, R151). -/
def Obligations.HeldShareNeverGrows : Prop :=
  ∀ s t : State, Coherent s → SharesInOrder s → step s = .next t →
    SharesInOrder t ∧
      (s.clm.eq.state = .held → t.clm.eq.state = .held →
        t.clm.eq.tag = s.clm.eq.tag ∧ t.clm.eq.snapshot = s.clm.eq.snapshot ∧ t.clm.eq.share ≤ s.clm.eq.share)

/-! ### Start-up -/

/-- STRAPS_SETTLED and SELF_TEST: the address is the strap word that has stood for 20 ms, once read it stands; the self-test
passes when the bytes looped back are the test notice; when both have come, start-up ends in SILENT, MONITOR_ONLY or JOINING
(R17, R117, R184, R190, R194, R195). That straps cannot settle sooner, nor a self-test end that does not run, is log entry
3; that the charge booked in STARTING gives way to Qmax is log entry 11. -/
def Obligations.StartUpEnds : Prop :=
  (∀ (after : Nat) (straps : BitVec 5) (s : State),
    (s.cfg.address.isSome = true ∨ s.fld.strapTimer = none ∨
        (∃ d, s.fld.strapTimer = some d ∧ s.now + after < d) →
      exec (.strapsSettled after straps) s = .next (s.elapse after)) ∧
    ∀ d, s.fld.strapTimer = some d → d ≤ s.now + after → s.cfg.address = none →
      (s.cfg.selfTest.ended = false →
        exec (.strapsSettled after straps) s =
          .next { s.elapse after with cfg.address := some straps, fld.strapTimer := none }) ∧
      (s.cfg.mode = .starting → s.cfg.selfTest.ended = true →
        ∃ t, exec (.strapsSettled after straps) s = .next t ∧
          StartUpEnded { s.elapse after with cfg.address := some straps, fld.strapTimer := none } t)) ∧
  (∀ (looped : Option (List Byte)) (s : State), (∀ d, s.cfg.selfTest ≠ .running d) →
    exec (.selfTest looped) s = .next s) ∧
  ∀ (looped : Option (List Byte)) (d : Nat) (s : State) (result : SelfTest), s.cfg.selfTest = .running d →
    (looped = some (encodeFrame 0 0 0 [0x55#8, 0xAA#8, 0x0F#8]) → result = .passed) →
    (looped ≠ some (encodeFrame 0 0 0 [0x55#8, 0xAA#8, 0x0F#8]) → result = .failed) →
      (s.cfg.address = none →
        exec (.selfTest looped) s = .next { s.reach d with cfg.selfTest := result }) ∧
      (s.cfg.address.isSome = true → s.cfg.mode = .starting →
        ∃ t, exec (.selfTest looped) s = .next t ∧
          StartUpEnded { s.reach d with cfg.selfTest := result } t)

/-- CONFIGURATION_READ: a record of 48 bytes whose CRC matches and whose format code is 1 is put in force as checked, any
other fails and puts the built-in defaults in force; with it come Qmax, the channels and monitors in use, the conditioning
of the inputs and the start of the self-test (R8, R16, R17, R181, R183, R190, R191, R194). A second read does nothing (log
entry 3), the channels and monitors are made anew (log entry 9), Q is Qmax from here on (log entry 11), a record of another
length fails (log entry 13), and the 92 bit times are rounded up (log entry 19). -/
def Obligations.ConfigurationReadEnds : Prop :=
  ∀ (record : List Byte) (s : State),
    (s.cfg.readEnded = true → exec (.configurationRead record) s = .next s) ∧
    (s.cfg.readEnded = false → ∃ t, exec (.configurationRead record) s = .next t ∧
      (if record.length = 48 ∧ record.drop 46 = crcBytes (record.take 46) ∧ record.head? = some 1#8 then
          t.cfg.config = checkedConfiguration record ∧ t.cfg.failed = false ∧ t.cfg.clamped = recordClamped record
        else t.cfg.config = builtInDefaults ∧ t.cfg.failed = true ∧ t.cfg.clamped = false) ∧
      (∀ i, (t.fld.line i).active = false ∧ (t.fld.line i).pinHigh = (s.fld.line i).pinHigh ∧
        (t.fld.line i).timer = if inputEnabled t.cfg.config i then some (t.now + 20000) else none) ∧
      t =
        { s.reach 1632 with
          cfg :=
            { s.cfg with
              readEnded := true
              config := t.cfg.config
              failed := t.cfg.failed
              clamped := t.cfg.clamped
              selfTest := .running (max s.now 1632 + (92 * 1000000 + 19199) / 19200) }
          scn.blocs := List.replicate t.cfg.config.blocCount resetChannel
          scn.staleCount := t.cfg.config.blocCount + 4
          mon.monitors := List.replicate t.cfg.config.blocCount resetMonitor
          acc.charge := t.cfg.config.capacity * 36000
          fld.fb := t.fld.fb
          fld.crdy := t.fld.crdy
          fld.probes := t.fld.probes
          fld.flow := .spent
          fld.flowTimer := none })

/-- The configuration a passing record puts in force is read from the bytes of R201, each field brought to the nearer limit
of its range, a dependent field after the field it depends on, the cells trimmed from the highest-numbered group down to one
each; it lies in its ranges; the clamped flag stays clear exactly when every field was in range and every selection code one
of the three, and then the record stands as read (R192, R201). The built-in defaults are those of R193. -/
def Obligations.CheckedConfigurationInRange : Prop :=
  DefaultsOfR193 builtInDefaults ∧
  ∀ record : List Byte, recordPasses record = true →
    CheckedFrom record (checkedConfiguration record) ∧ ConfigInRange (checkedConfiguration record) ∧
    ∀ raw : Configuration,
      raw = { rawConfiguration record with cells := (rawConfiguration record).cells.take (rawConfiguration record).groupCount } →
      (recordClamped record = false ↔
        ConfigInRange raw ∧ ∀ d, d = 64 ∨ d = 16 ∨ d = 4 → recordByte record 21 / d % 4 ≠ 0) ∧
      (recordClamped record = false → checkedConfiguration record = raw)

/-! ### The time base and the scan -/

/-- SCAN_START and HOUR_EXPIRY: the next expiry is set; every record grows one second older and goes when its age would
pass 6P; a scan begins once the configuration read has ended; hours_since counts up to 65535 (R1, R2, R30, R106, R107).
As time passes in a scan each word is stored in the sample buffer once its 17 bit times are over, and nothing else of SCN
changes (R2): the words of the SAMPLE_SET that waits (log entry 7), or free values where none waits (log entry 27). -/
def Obligations.TimeBaseExpires : Prop :=
  ∀ s : State,
    (∀ after, (s.elapse after).now = s.now + after) ∧ (∀ d, (s.reach d).now = max s.now d) ∧
    (∀ t : State, (∃ after, t = s.elapse after) ∨ (∃ d, t = s.reach d) →
      (s.scn.scanEnds = none → t = { s with now := t.now }) ∧
      ∀ ends, s.scn.scanEnds = some ends → 2040 ≤ ends →
        t = { s with now := t.now, scn.buffer := t.scn.buffer } ∧ t.scn.buffer.length = 30 ∧
        ∀ i, i < 30 →
          (ends - 2040 + (i + 1) * 68 ≤ t.now →
            (∀ words, incomingWords s.pending = some words → t.scn.buffer[i]? = some (words.getD i 0#17)) ∧
            (incomingWords s.pending = none → t.scn.buffer[i]? = some (Config.linkWord s.resets ends i))) ∧
          (t.now < ends - 2040 + (i + 1) * 68 → t.scn.buffer[i]? = some (s.scn.buffer.getD i 0#17))) ∧
    (∃ t, exec .scanStart s = .next t ∧
      (∀ p, p ∈ t.ptb ↔ ∃ q ∈ s.ptb, q.age + 1 ≤ 6 * s.cfg.config.period ∧ p = { q with age := q.age + 1 }) ∧
      (t.ptb.map PeerRecord.address).Sublist (s.ptb.map PeerRecord.address) ∧
      t =
        { s.reach s.nextSecond with
          nextSecond := s.nextSecond + 1000000
          ptb := t.ptb
          scn.scanEnds := if s.cfg.readEnded then some (max s.now s.nextSecond + 2040) else s.scn.scanEnds }) ∧
    exec .hourExpiry s =
      .next
        { s.reach s.nextHour with
          nextHour := s.nextHour + 3600000000
          acc.hours := min 65535 (s.acc.hours + 1) }

/-- SAMPLE_SET: what a sample set may change at all, the stale count, the string temperature and the rest timer in every
round state, and that it does nothing more to the round in TRANSFER_OUT, REST, WATERING, INHIBITED and STUCK (R2, R14, R15,
R62, R63, R149, R175). Without a scan in progress nothing happens (log entry 3), the buffer holds the command's words at
completion (log entry 7), and a word that is missing reads as zeros (log entry 13). -/
def Obligations.SampleSetIsDelivered : Prop :=
  ∀ (words : List ScanWord) (s : State),
    (s.scn.scanEnds = none → exec (.sampleSet words) s = .next s) ∧
    ∀ ends, s.scn.scanEnds = some ends → ∃ t, exec (.sampleSet words) s = .next t ∧
      t =
        { s with
          now := max s.now ends
          scn := t.scn
          mon := t.mon
          acc := t.acc
          clm := t.clm
          rnd := t.rnd
          fld.pwmDuty := t.fld.pwmDuty } ∧
      t.scn.scanEnds = none ∧ t.scn.buffer = (List.range 30).map (fun i => words.getD i 0#17) ∧
      t.scn.staleCount =
        (t.scn.blocs ++ [t.scn.current, t.scn.voltage, t.scn.pilot, t.scn.ambient]).countP
          (fun c => c.freshness = .stale) ∧
      (t.scn.pilot.freshness ≠ .stale → t.rnd.temperature = some t.scn.pilot.value) ∧
      (t.scn.pilot.freshness = .stale → t.scn.ambient.freshness ≠ .stale →
        t.rnd.temperature = some t.scn.ambient.value) ∧
      (t.scn.pilot.freshness = .stale → t.scn.ambient.freshness = .stale → t.rnd.temperature = none) ∧
      (Recognised s t ∨ offFloat s.rnd.round = true → t.rnd.restTimer = 0) ∧
      (¬ Recognised s t → offFloat s.rnd.round = false →
        t.rnd.restTimer = min (s.cfg.config.restHours * 3600) (s.rnd.restTimer + 1)) ∧
      (s.rnd.round = .transferOut ∨ s.rnd.round = .rest ∨ s.rnd.round = .watering ∨ s.rnd.round = .inhibited ∨
          s.rnd.round = .stuck →
        t.rnd = { s.rnd with temperature := t.rnd.temperature, restTimer := t.rnd.restTimer } ∧
          t.clm = { s.clm with statusQueued := t.clm.statusQueued } ∧ t.fld = s.fld ∧
          t.acc.forceEq = s.acc.forceEq ∧ t.acc.forceWater = s.acc.forceWater)

/-- The checks on the whole scan: a miss advances a known expected sequence, a header that passes sets it from the word
received; a miss, a repeat or a failed status word makes every channel step as an invalid scan requires (R4, R5, R6, R7,
R11, R12); a word that is missing counts as bad parity (log entry 13). -/
def Obligations.HeaderIsChecked : Prop :=
  ∀ (words : List ScanWord) (s : State) (ends : Nat), s.scn.scanEnds = some ends →
    ∃ t, exec (.sampleSet words) s = .next t ∧ t.scn.blocs.length = s.scn.blocs.length ∧
      (OddOnes (words.getD 0 0#17) → (words.getD 0 0#17).extractLsb' 5 12 = 0xA5C#12 →
        t.scn.expected = some ((words.getD 0 0#17).extractLsb' 1 4 + 1#4)) ∧
      (¬ OddOnes (words.getD 0 0#17) ∨ (words.getD 0 0#17).extractLsb' 5 12 ≠ 0xA5C#12 →
        t.scn.expected = s.scn.expected.map (fun e => e + 1#4)) ∧
      (¬ Examined s words →
        (∀ (i : Nat) (c c' : Channel), s.scn.blocs[i]? = some c → t.scn.blocs[i]? = some c' → c.StepsInvalid c') ∧
          s.scn.current.StepsInvalid t.scn.current ∧ s.scn.voltage.StepsInvalid t.scn.voltage ∧
          s.scn.pilot.StepsInvalid t.scn.pilot ∧ s.scn.ambient.StepsInvalid t.scn.ambient)

/-- In a scan that passes its checks every channel in use steps by its own word: a word of bad parity is an invalid scan
for it, a number outside its plausible range is clamped and marked, any other is accepted as it stands (R8, R9, R10, R11,
R12, R13); a word that is missing counts as bad parity (log entry 13). -/
def Obligations.ChannelWordsAreAccepted : Prop :=
  ∀ (words : List ScanWord) (s : State) (ends : Nat), s.scn.scanEnds = some ends → Examined s words →
    ∃ t, exec (.sampleSet words) s = .next t ∧ t.scn.blocs.length = s.scn.blocs.length ∧
      (∀ (i : Nat) (c c' : Channel), s.scn.blocs[i]? = some c → t.scn.blocs[i]? = some c' →
        Channel.StepsWord (words.getD (i + 1) 0#17) 0 4000 ((words.getD (i + 1) 0#17).extractLsb' 1 16).toNat c c') ∧
      Channel.StepsWord (words.getD 25 0#17) (-30000) 30000 ((words.getD 25 0#17).extractLsb' 1 16).toInt
        s.scn.current t.scn.current ∧
      Channel.StepsWord (words.getD 26 0#17) 0 65535 ((words.getD 26 0#17).extractLsb' 1 16).toNat
        s.scn.voltage t.scn.voltage ∧
      Channel.StepsWord (words.getD 27 0#17) (-400) 850 ((words.getD 27 0#17).extractLsb' 1 16).toInt
        s.scn.pilot t.scn.pilot ∧
      Channel.StepsWord (words.getD 28 0#17) (-400) 850 ((words.getD 28 0#17).extractLsb' 1 16).toInt
        s.scn.ambient t.scn.ambient

/-! ### The Bloc Monitor -/

/-- Mean, spread and band condition of the participating blocs, and the summaries and the fold-back trigger made from the
monitors (R41, R42, R49, R50, R54). -/
def Obligations.MeanSpreadAndSummaries : Prop :=
  ∀ (words : List ScanWord) (s : State) (ends : Nat), s.scn.scanEnds = some ends →
    ∃ t, exec (.sampleSet words) s = .next t ∧
      (∀ values : List Nat, values = (t.scn.blocs.filter (fun c : Channel => c.freshness ≠ .stale)).map (fun c : Channel => c.value.toNat) →
        (values.length < 2 → t.mon.mean = none ∧ t.mon.spread = none ∧ t.mon.band = false) ∧
        (2 ≤ values.length →
          t.mon.mean = some (values.sum / values.length) ∧
          ∃ lo hi, lo ∈ values ∧ hi ∈ values ∧ (∀ v ∈ values, lo ≤ v ∧ v ≤ hi) ∧ t.mon.spread = some (hi - lo) ∧
            (t.mon.band = true ↔
              hi - lo ≤ s.cfg.config.sOk ∧ t.scn.current.freshness ≠ .stale ∧
                t.scn.current.value ≤ (s.cfg.config.capacity * 10 / 100 : Nat)))) ∧
      (t.mon.devAlert = true ↔
        t.mon.mean ≠ none ∧ ∃ (i : Nat) (c : Channel) (m : BlocMonitor), t.scn.blocs[i]? = some c ∧ t.mon.monitors[i]? = some m ∧ c.freshness ≠ .stale ∧
          m.devOutside = true) ∧
      (t.mon.lowAlert = true ↔
        ∃ (i : Nat) (c : Channel) (m : BlocMonitor), t.scn.blocs[i]? = some c ∧ t.mon.monitors[i]? = some m ∧ c.freshness ≠ .stale ∧ m.lowOutside = true) ∧
      (t.mon.foldBack = true ↔
        ∃ (i : Nat) (c : Channel) (m : BlocMonitor), t.scn.blocs[i]? = some c ∧ t.mon.monitors[i]? = some m ∧ c.freshness = .fresh ∧ m.highOutside = true)

/-- The three monitors of each bloc have hysteresis, a STALE bloc keeps its statuses, and a crossing that its selection
allows requests a Status where the queue takes one, while without such a crossing the monitors request none (R44, R45, R46,
R47, R48). In PREPARE, EQUALISING, SOAK and TRANSFER_BACK the round may request one of its own (R136, R137, R160). -/
def Obligations.MonitorsHaveHysteresis : Prop :=
  ∀ (words : List ScanWord) (s : State) (ends : Nat), s.scn.scanEnds = some ends →
    ∃ t, exec (.sampleSet words) s = .next t ∧
      (¬ MonitorEvents s t → s.rnd.round ≠ .prepare → s.rnd.round ≠ .equalising → s.rnd.round ≠ .soak →
        s.rnd.round ≠ .transferBack → t.clm.statusQueued = s.clm.statusQueued) ∧
      ∀ (i : Nat) (c : Channel) (m : BlocMonitor), t.scn.blocs[i]? = some c → s.mon.monitors[i]? = some m →
        ∃ m' : BlocMonitor, t.mon.monitors[i]? = some m' ∧
          (c.freshness = .stale → m' = m) ∧
          (c.freshness ≠ .stale → ∀ v : Nat, c.value = v →
            (t.mon.mean = none → m'.devOutside = m.devOutside) ∧
            (∀ mean, t.mon.mean = some mean →
              (m'.devOutside = true ↔
                if m.devOutside then (s.cfg.config.dv : Int) - 5 < |(v : Int) - mean|
                else (s.cfg.config.dv : Int) < |(v : Int) - mean|)) ∧
            (m'.highOutside = true ↔
              if m.highOutside then (s.cfg.config.vhi : Int) - 20 < v else s.cfg.config.vhi < v) ∧
            (m'.lowOutside = true ↔ if m.lowOutside then v < s.cfg.config.vlo + 20 else v < s.cfg.config.vlo)) ∧
          (queueOpen s.cfg.mode = true →
            MonitorCrossed s.cfg.config m m' → t.clm.statusQueued = true)

/-- The spread block: one more float-settled sample set, the 3600th of which completes S_float; any other sample set
discards the block and leaves S_float (R51, R52, R53). -/
def Obligations.SpreadBlockAverages : Prop :=
  ∀ (words : List ScanWord) (s : State) (ends : Nat), s.scn.scanEnds = some ends →
    ∃ t, exec (.sampleSet words) s = .next t ∧
      ∀ settled : Prop,
        (settled ↔
          (s.rnd.round = .float ∨ s.rnd.round = .due ∨ s.rnd.round = .waterDue) ∧ t.scn.current.freshness ≠ .stale ∧
            -((s.cfg.config.capacity * 10 / 50 : Nat) : Int) ≤ t.scn.current.value ∧
            t.scn.current.value ≤ (s.cfg.config.capacity * 10 / 50 : Nat) ∧ t.mon.spread ≠ none) →
        (settled → s.mon.spreadCount + 1 ≠ 3600 → ∀ d, t.mon.spread = some d →
          t.mon.spreadSum = s.mon.spreadSum + d ∧ t.mon.spreadCount = s.mon.spreadCount + 1 ∧
            t.mon.sFloat = s.mon.sFloat ∧ t.mon.sFloatValid = s.mon.sFloatValid) ∧
        (settled → s.mon.spreadCount + 1 = 3600 → ∀ d, t.mon.spread = some d →
          t.mon.sFloat = (s.mon.spreadSum + d) / 3600 ∧ t.mon.sFloatValid = true ∧ t.mon.spreadSum = 0 ∧
            t.mon.spreadCount = 0) ∧
        (¬ settled →
          t.mon.spreadSum = 0 ∧ t.mon.spreadCount = 0 ∧ t.mon.sFloat = s.mon.sFloat ∧
            t.mon.sFloatValid = s.mon.sFloatValid)

/-! ### The Charge Account -/

/-- A usable negative current is booked as discharge (R20). -/
def Obligations.DischargeIsBooked : Prop :=
  ∀ (words : List ScanWord) (s : State) (ends : Nat), s.scn.scanEnds = some ends → Coherent s →
    ∃ t, exec (.sampleSet words) s = .next t ∧
      ∀ d : Nat, 0 < d → t.scn.current.freshness ≠ .stale → t.scn.current.value = -(d : Int) →
        t.acc.charge = (if s.acc.charge < d then 0 else s.acc.charge - d) ∧
          t.acc.discharged = min 4294967295 (s.acc.discharged + d) ∧ t.acc.gassing = s.acc.gassing

/-- A usable positive current is booked as charge: split between the string and gassing below full, the remainder beyond
the room to gassing at the second that fills the string, all of it to gassing at full (R21, R22, R23, with full recognition
as in R27). -/
def Obligations.ChargeIsBooked : Prop :=
  ∀ (words : List ScanWord) (s : State) (ends : Nat), s.scn.scanEnds = some ends → Coherent s →
    ∃ t, exec (.sampleSet words) s = .next t ∧
      ∀ c full stored : Nat, 0 < c → t.scn.current.freshness ≠ .stale → t.scn.current.value = c →
        full = s.cfg.config.capacity * 36000 → stored = c * s.cfg.config.eta / 100 →
        t.acc.discharged = s.acc.discharged ∧
        (Recognised s t → t.acc.charge = full) ∧
        (s.acc.charge < full → stored ≤ full - s.acc.charge →
          (¬ Recognised s t → t.acc.charge = s.acc.charge + stored) ∧
            t.acc.gassing = min 4294967295 (s.acc.gassing + (c - stored)) ∧
            (s.cfg.config.eta ≤ 100 → c - stored = (c * (100 - s.cfg.config.eta) + 99) / 100)) ∧
        (s.acc.charge < full → full - s.acc.charge < stored →
          t.acc.charge = full ∧ t.acc.gassing = min 4294967295 (s.acc.gassing + (c - (full - s.acc.charge)))) ∧
        (s.acc.charge = full →
          t.acc.charge = full ∧ t.acc.gassing = min 4294967295 (s.acc.gassing + c))

/-- The full-recognition timer, full recognition, the account uncertain flag, and what a STALE or zero current books
(R19, R26, R27, R33). -/
def Obligations.FullRecognition : Prop :=
  ∀ (words : List ScanWord) (s : State) (ends : Nat), s.scn.scanEnds = some ends → Coherent s →
    ∃ t, exec (.sampleSet words) s = .next t ∧
      (t.scn.current.freshness ≠ .stale ∧ 0 ≤ t.scn.current.value ∧
          t.scn.current.value ≤ (s.cfg.config.capacity * 10 / 200 : Nat) ∧ offFloat s.rnd.round = false →
        t.acc.fullTimer = min 7200 (s.acc.fullTimer + 1)) ∧
      (t.scn.current.freshness = .stale ∨ t.scn.current.value < 0 ∨
          ((s.cfg.config.capacity * 10 / 200 : Nat) : Int) < t.scn.current.value ∨ offFloat s.rnd.round = true →
        t.acc.fullTimer = 0) ∧
      (Recognised s t → t.acc.charge = s.cfg.config.capacity * 36000 ∧ t.acc.uncertain = false) ∧
      (¬ Recognised s t → t.scn.current.freshness = .stale → t.acc.uncertain = true) ∧
      (¬ Recognised s t → t.scn.current.freshness ≠ .stale →
        t.acc.uncertain = (s.acc.uncertain || t.scn.current.clamped)) ∧
      (t.scn.current.freshness = .stale ∨ t.scn.current.value = 0 →
        (¬ Recognised s t → t.acc.charge = s.acc.charge) ∧ t.acc.gassing = s.acc.gassing ∧
          t.acc.discharged = s.acc.discharged)

/-- The discharge detector: 60 sample sets in a row at or below the discharge limit set DISCHARGING, 60 in a row at zero or
above clear it (R28, R29). -/
def Obligations.DischargeDetector : Prop :=
  ∀ (words : List ScanWord) (s : State) (ends : Nat), s.scn.scanEnds = some ends → Coherent s →
    s.acc.dischargeRun ≤ 59 → s.acc.recoveryRun ≤ 59 →
    ∃ t, exec (.sampleSet words) s = .next t ∧
      ∀ (low up : Prop),
        (low ↔ t.scn.current.freshness ≠ .stale ∧
          t.scn.current.value ≤ -((s.cfg.config.capacity * 10 / 100 : Nat) : Int)) →
        (up ↔ t.scn.current.freshness ≠ .stale ∧ 0 ≤ t.scn.current.value) →
        (s.acc.discharging = false →
          (¬ low → t.acc.discharging = false ∧ t.acc.dischargeRun = 0) ∧
          (low → s.acc.dischargeRun ≤ 58 → t.acc.discharging = false ∧ t.acc.dischargeRun = s.acc.dischargeRun + 1) ∧
          (low → s.acc.dischargeRun = 59 →
            t.acc.discharging = true ∧ t.acc.dischargeRun = 0 ∧ t.acc.recoveryRun = 0)) ∧
        (s.acc.discharging = true →
          (¬ up → t.acc.discharging = true ∧ t.acc.recoveryRun = 0) ∧
          (up → s.acc.recoveryRun ≤ 58 → t.acc.discharging = true ∧ t.acc.recoveryRun = s.acc.recoveryRun + 1) ∧
          (up → s.acc.recoveryRun = 59 →
            t.acc.discharging = false ∧ t.acc.recoveryRun = 0 ∧ t.acc.dischargeRun = 0))

/-- The water deficit, the water urgency, the three score terms and the presented score of a sample set (R25, R31, R32,
R57, R58, R59, R60); in PREPARE a round end may clear the force flag in the same sample set, and the score is read after
it. -/
def Obligations.ScoreAndWaterFigures : Prop :=
  ∀ (words : List ScanWord) (s : State) (ends : Nat), s.scn.scanEnds = some ends → Coherent s →
    ∃ t, exec (.sampleSet words) s = .next t ∧
      t.acc.deficit = min 999999 (t.acc.gassing * 7 / 750) ∧
      t.acc.urgency = min 1000 (t.acc.deficit / 100) ∧
      t.acc.hours = s.acc.hours ∧ t.acc.restarted = s.acc.restarted ∧
      t.acc.tt = min 400 (400 * s.acc.hours / (s.cfg.config.intervalDays * 24)) ∧
      t.acc.tq =
        min 300 (300 * (t.acc.discharged / 360) / (s.cfg.config.turnoverLimit * s.cfg.config.capacity * 100)) ∧
      (t.mon.sFloatValid = false → t.acc.ts = s.acc.ts) ∧
      (t.mon.sFloatValid = true → t.mon.sFloat ≤ s.cfg.config.sOk → t.acc.ts = 0) ∧
      (t.mon.sFloatValid = true → s.cfg.config.sOk < t.mon.sFloat → t.mon.sFloat < s.cfg.config.sBad →
        t.acc.ts = 300 * (t.mon.sFloat - s.cfg.config.sOk) / (s.cfg.config.sBad - s.cfg.config.sOk)) ∧
      (t.mon.sFloatValid = true → s.cfg.config.sOk < t.mon.sFloat → s.cfg.config.sBad ≤ t.mon.sFloat →
        t.acc.ts = 300) ∧
      t.acc.presentedScore = (if t.acc.forceEq then 1000 else t.acc.tt + t.acc.tq + t.acc.ts)

/-! ### Need, fitness and claims at a sample set -/

/-- A sample set in FLOAT: DUE with equalise need (500 or more) and fitness, else WATER_DUE with watering need and
fitness, else FLOAT (R64, R65, R66, R67). -/
def Obligations.FloatDecides : Prop :=
  ∀ (words : List ScanWord) (s : State) (ends : Nat), s.scn.scanEnds = some ends → s.rnd.round = .float →
    ∃ u t, exec (.sampleSet words) s = .next t ∧ Measured ends s u ∧
      (500 ≤ u.acc.presentedScore → FitToEqualise u → t = { u with rnd.round := .due }) ∧
      (u.acc.presentedScore < 500 ∨ ¬ FitToEqualise u → NeedsWater u → FitToWater u →
        t = { u with rnd.round := .waterDue }) ∧
      (u.acc.presentedScore < 500 ∨ ¬ FitToEqualise u → ¬ NeedsWater u ∨ ¬ FitToWater u → t = u)

/-- A sample set in DUE: back to FLOAT without need (450 or more) or fitness; with both, an EQ claim is made when its five
conditions hold, with the next tag, the presented score as snapshot and the share left on the charger, and the string waits
when one fails (R64, R68, R108, R109, R114, R119, R120, R121). -/
def Obligations.DueClaims : Prop :=
  ∀ (words : List ScanWord) (s : State) (ends : Nat), s.scn.scanEnds = some ends → s.rnd.round = .due →
    ∃ u t, exec (.sampleSet words) s = .next t ∧ Measured ends s u ∧
      (u.acc.presentedScore < 450 ∨ ¬ FitToEqualise u → t = { u with rnd.round := .float }) ∧
      (450 ≤ u.acc.presentedScore → FitToEqualise u → ∀ (unclaimed committed request : Nat) (allowed : Prop),
        unclaimed = s.ptb.countP (fun p =>
          p.age ≤ 3 * s.cfg.config.period ∧ p.available = true ∧ p.discharging = false ∧ p.mode ≠ .unreported ∧
            p.eqClaim = none) →
        committed = (s.ptb.map fun p => match p.eqClaim with | some c => c.share | none => 0).sum →
        request = min (s.cfg.config.capacity * 10 / s.cfg.config.shareDivisor) s.cfg.config.eBus →
        (allowed ↔
          s.clm.eq.state = .none ∧ s.clm.eqBackOff = none ∧ s.cfg.hold = false ∧ s.cfg.config.rMin ≤ unclaimed ∧
            committed + request / 2 ≤ s.cfg.config.eBus) →
        (¬ allowed → t = u) ∧
        (allowed →
          t =
            { u with
              rnd.round := .claiming
              clm.eq :=
                { state := .queued, tag := s.clm.nextTag, snapshot := u.acc.presentedScore,
                  share := min request (s.cfg.config.eBus - committed), reason := t.clm.eq.reason,
                  windowTimer := none, yielding := false }
              clm.nextTag := if s.clm.nextTag = 255 then 1 else s.clm.nextTag + 1 }))

/-- A sample set in WATER_DUE: back to FLOAT without need or fitness; with both, a WATER claim is made when its four
conditions hold, with the next tag, the water urgency as snapshot and no share, and the string waits when one fails (R69,
R110, R114, R122). -/
def Obligations.WaterDueClaims : Prop :=
  ∀ (words : List ScanWord) (s : State) (ends : Nat), s.scn.scanEnds = some ends → s.rnd.round = .waterDue →
    ∃ u t, exec (.sampleSet words) s = .next t ∧ Measured ends s u ∧
      (¬ NeedsWater u ∨ ¬ FitToWater u → t = { u with rnd.round := .float }) ∧
      (NeedsWater u → FitToWater u → ∀ allowed : Prop,
        (allowed ↔
          s.clm.water.state = .none ∧ s.clm.waterBackOff = none ∧ s.cfg.hold = false ∧
            ∀ p ∈ s.ptb, p.waterClaim = none) →
        (¬ allowed → t = u) ∧
        (allowed →
          t =
            { u with
              rnd.round := .waterClaiming
              clm.water :=
                { state := .queued, tag := s.clm.nextTag, snapshot := u.acc.urgency, share := 0,
                  reason := t.clm.water.reason, windowTimer := none, yielding := false }
              clm.nextTag := if s.clm.nextTag = 255 then 1 else s.clm.nextTag + 1 }))

/-- A sample set in CLAIMING or WATER_CLAIMING tests fitness alone: an unfit string withdraws its claim, from the queue
without a notice, while CONTENDING with a Release and the back-off, and returns to FLOAT (R70, R129, R130). -/
def Obligations.ClaimingLosesFitness : Prop :=
  ∀ (words : List ScanWord) (s : State) (ends : Nat) (r : Resource), s.scn.scanEnds = some ends →
    s.rnd.round = (match r with | .eq => .claiming | .water => .waterClaiming) →
    ∃ u t, exec (.sampleSet words) s = .next t ∧ Measured ends s u ∧
      ∀ fit : Prop, (fit ↔ match r with | .eq => FitToEqualise u | .water => FitToWater u) →
        (fit → t = u) ∧
        (¬ fit → (s.clm.machine r).state = .queued → t = { u.unqueued r with rnd.round := .float }) ∧
        (¬ fit → (s.clm.machine r).state = .contending → t = { u.withdrawn r with rnd.round := .float })

/-! ### The equalising round at a sample set -/

/-- A sample set in EQUALISING or SOAK: the abort tests, then the elapsed time, the band timer and the end tests; each of
them that ends the round sends it back with the current wait, otherwise the band condition says SOAK or EQUALISING
(R152, R153, R156). -/
def Obligations.EqualisingSampleEnds : Prop :=
  ∀ (words : List ScanWord) (s : State) (ends : Nat) (r : OpenRecord), s.scn.scanEnds = some ends →
    s.rnd.round = .equalising ∨ s.rnd.round = .soak → s.rnd.record = some r → r.outcome = none →
    ∃ u t, exec (.sampleSet words) s = .next t ∧ Measured ends s u ∧
      (u.scn.current.freshness = .stale → t = u.sentBack r .aborted (some .currentStale)) ∧
      (u.scn.current.freshness ≠ .stale →
        u.rnd.temperature = none ∨ (∃ v, u.rnd.temperature = some v ∧ 450 < v) →
        t = u.sentBack r .aborted (some .temperature)) ∧
      (u.scn.current.freshness ≠ .stale → ∀ v, u.rnd.temperature = some v → v ≤ 450 →
        ∀ (elapsed band : Nat) (w : State), elapsed = min 86400 (s.rnd.elapsed + 1) →
        band = (if u.mon.band then min 86400 (s.rnd.bandTimer + 1) else 0) →
        w =
          { u with
            rnd.elapsed := elapsed
            rnd.bandTimer := band
            rnd.round := if u.mon.band then .soak else .equalising } →
        (s.cfg.config.holdMinutes * 60 ≤ band → s.cfg.config.minHours * 3600 ≤ elapsed →
          t = w.sentBack r .complete none) ∧
        (band < s.cfg.config.holdMinutes * 60 ∨ elapsed < s.cfg.config.minHours * 3600 →
          s.cfg.config.maxHours * 3600 ≤ elapsed → t = w.sentBack r .timedOut none) ∧
        (band < s.cfg.config.holdMinutes * 60 ∨ elapsed < s.cfg.config.minHours * 3600 →
          elapsed < s.cfg.config.maxHours * 3600 →
          t =
            { w with
              clm :=
                { w.clm with
                  eq.share := t.clm.eq.share
                  history := t.clm.history
                  lowRun := t.clm.lowRun
                  statusQueued := t.clm.statusQueued }
              rnd :=
                { w.rnd with
                  duty := t.rnd.duty
                  applied := t.rnd.applied
                  pending := t.rnd.pending
                  pendingValid := t.rnd.pendingValid }
              fld.pwmDuty := t.fld.pwmDuty }))

/-- The share and regulator step of a sample set that leaves the round working: the pending share is applied, then the duty
takes a fold-back step or a quarter of the error, truncated and limited (R151, R154); a duty of 0 takes effect in the PWM
period under way (R186). -/
def Obligations.RegulatorSteps : Prop :=
  ∀ (words : List ScanWord) (s : State) (ends : Nat), s.scn.scanEnds = some ends →
    s.rnd.round = .equalising ∨ s.rnd.round = .soak →
    ∃ t, exec (.sampleSet words) s = .next t ∧
      (t.rnd.round = .equalising ∨ t.rnd.round = .soak →
        t.rnd.applied = (if s.rnd.pendingValid then s.rnd.pending else s.rnd.applied) ∧
        (t.mon.foldBack = true → t.rnd.duty = s.rnd.duty - s.rnd.duty / 8) ∧
        (t.mon.foldBack = false → ∀ error step : Int, error = t.rnd.applied - t.scn.current.value →
          (0 ≤ error → step = min 32 (error / 4)) → (error < 0 → step = -(min 32 (-error / 4))) →
          (s.rnd.duty + step < 0 → t.rnd.duty = 0) ∧ (1023 < s.rnd.duty + step → t.rnd.duty = 1023) ∧
          (0 ≤ s.rnd.duty + step → s.rnd.duty + step ≤ 1023 → (t.rnd.duty : Int) = s.rnd.duty + step)) ∧
        t.fld.pwmDuty = (if t.rnd.duty = 0 then 0 else s.fld.pwmDuty))

/-- The current history, the low-current run and the share reduction of a HELD claim at a sample set after which the round
is EQUALISING or SOAK; at any other they stand (R136). -/
def Obligations.ShareReduces : Prop :=
  ∀ (words : List ScanWord) (s : State) (ends : Nat), s.scn.scanEnds = some ends →
    ∃ t, exec (.sampleSet words) s = .next t ∧
      ((t.rnd.round ≠ .equalising ∧ t.rnd.round ≠ .soak) ∨ t.scn.current.freshness = .stale →
        t.clm.history = s.clm.history ∧ t.clm.lowRun = s.clm.lowRun) ∧
      (t.rnd.round = .equalising ∨ t.rnd.round = .soak → t.scn.current.freshness ≠ .stale →
        (s.clm.history.length < 60 → t.clm.history = s.clm.history ++ [t.scn.current.value]) ∧
        (s.clm.history.length = 60 → t.clm.history = s.clm.history.tail ++ [t.scn.current.value]) ∧
        (t.rnd.round = .equalising → 2 * t.scn.current.value < t.rnd.applied →
          t.clm.lowRun = min 600 (s.clm.lowRun + 1)) ∧
        (t.rnd.round = .soak ∨ (t.rnd.applied : Int) ≤ 2 * t.scn.current.value → t.clm.lowRun = 0) ∧
        ∀ (average up : Int) (share : Nat) (reduced : Prop), average * 60 ≤ t.clm.history.sum →
          t.clm.history.sum < (average + 1) * 60 → average * 5 ≤ up * 4 → up * 4 < average * 5 + 4 →
          (share : Int) = max 1 up →
          (reduced ↔
            t.clm.history.length = 60 ∧ (t.rnd.round = .soak ∨ t.clm.lowRun = 600) ∧ s.clm.eq.state = .held ∧
              share < s.clm.eq.share) →
          (reduced →
            t.clm.eq = { s.clm.eq with share := share } ∧ t.rnd.pending = share ∧ t.rnd.pendingValid = true ∧
              (queueOpen s.cfg.mode = true → t.clm.statusQueued = true)) ∧
          (¬ reduced → t.clm.eq = s.clm.eq ∧ t.rnd.pending = s.rnd.pending ∧ t.rnd.pendingValid = false))

/-- A sample set in PREPARE ends the round when the current is STALE or the temperature unknown or above 45.0 °C; in
TRANSFER_BACK a usable current of at most 1.0 A ends the current wait and commands the relay to float; otherwise the round
stands (R148, R156). -/
def Obligations.PrepareAndReturnSamples : Prop :=
  ∀ (words : List ScanWord) (s : State) (ends : Nat), s.scn.scanEnds = some ends →
    (s.rnd.round = .prepare → ∀ r, s.rnd.record = some r → r.outcome = none →
      ∃ u t, exec (.sampleSet words) s = .next t ∧ Measured ends s u ∧
        (u.scn.current.freshness = .stale →
          EqualiseEnded .aborted (some .currentStale) r.openedAt { u with rnd.chargerWait := none } t) ∧
        (u.scn.current.freshness ≠ .stale →
          u.rnd.temperature = none ∨ (∃ v, u.rnd.temperature = some v ∧ 450 < v) →
          EqualiseEnded .aborted (some .temperature) r.openedAt { u with rnd.chargerWait := none } t) ∧
        (u.scn.current.freshness ≠ .stale → ∀ v, u.rnd.temperature = some v → v ≤ 450 → t = u)) ∧
    (s.rnd.round = .transferBack →
      ∃ u t, exec (.sampleSet words) s = .next t ∧ Measured ends s u ∧
        (s.rnd.currentWait.isSome = true → u.scn.current.freshness ≠ .stale → u.scn.current.value ≤ 10 →
          WindowStarted u t) ∧
        (s.rnd.currentWait = none ∨ u.scn.current.freshness = .stale ∨ 10 < u.scn.current.value → t = u))

/-! ### The site line -/

/-- What the receive assembler and the idle timer make of an idle, a break, a framing error, an abandoned frame and a
discarded one, and the timer's count of bit times between (R75, R76, R77, R78, R93). The timer is set to 0 at a dominant
level and at a frame's completion; a frame abandoned leaves it at the recessive bits its length byte ends in. Between
commands it counts the bit times of recessive line, a free value no greater than the time allows (log entries 7 and 27). The
idle comes 12 bit times after the timer was last known at 0, and no sooner (log entries 3 and 7); that it does nothing in
STARTING and inside the own attempt is log entry 18, that no frame is discarded in HUNT nor abandoned at another length byte
log entry 3. That the timer keeps the recessive bits an abandoned frame ends in is log entry 6; that these bits are rounded
up to whole microseconds, and bit times counted down to whole ones, is log entry 19. -/
def Obligations.LineListening : Prop :=
  ∀ (after : Nat) (s : State),
    (s.cfg.mode ≠ .starting → s.lin.attempt = none →
      (∀ since, s.lin.idle.since = some since → since + 625 ≤ s.now + after) →
      exec (.lineIdle after) s =
        .next { s.elapse after with lin.idle := .full (s.now + after), lin.assembler := .ready }) ∧
    (s.cfg.mode = .starting ∨ s.lin.attempt.isSome = true ∨
        (∃ since, s.lin.idle.since = some since ∧ s.now + after < since + 625) →
      exec (.lineIdle after) s = .next (s.elapse after)) ∧
    (s.cfg.mode = .starting → s.idleTimer = 0) ∧
    (s.cfg.mode ≠ .starting → s.lin.attempt = none →
      (∀ reached, s.lin.idle = .full reached →
        (s.now ≤ reached → s.idleTimer = 12) ∧
        (reached < s.now → s.idleTimer = min 12 (Config.lineRun s.resets s.now))) ∧
      ∀ since n, s.lin.idle.since = some since → n * 1000000 ≤ (s.now - since) * 19200 →
        (s.now - since) * 19200 < (n + 1) * 1000000 →
        ((∃ heard, s.lin.idle = .tail since heard ∧ s.now ≤ heard) → s.idleTimer = min 11 n) ∧
        ((s.lin.idle = .counting since ∨ ∃ heard, s.lin.idle = .tail since heard ∧ heard < s.now) →
          s.idleTimer = min 11 (min n (Config.lineRun s.resets s.now)))) ∧
    exec (.lineBreak after) s = .next (s.frameHeard after) ∧
    exec (.framingError after) s = .next (s.frameHeard after) ∧
    (∀ (length : Byte) (n : Nat), RecessiveEnd length n →
      (24 < length.toNat →
        exec (.frameAbandoned { after := after, length := length }) s =
          .next
            { s.elapse after with
              lin.assembler := .hunt
              lin.idle := .tail (s.now + after - (n * 1000000 + 19199) / 19200) (s.now + after) }) ∧
      (length.toNat ≤ 24 →
        exec (.frameAbandoned { after := after, length := length }) s = .next (s.elapse after))) ∧
    (s.lin.assembler ≠ .hunt → exec (.frameDiscarded after) s = .next (s.frameHeard after)) ∧
    (s.lin.assembler = .hunt → exec (.frameDiscarded after) s = .next (s.elapse after))

/-- DOMINANT_COUNT and BIT_ERROR: each counts one failure against the waiting or the sent notice, the eighth is the line
fault with its entry to ISOLATED, and one failure ends a recovery (R71, R82, R86, R88, R89, R91, R138, R158, R175). A bit
error is a mismatch at a dominant bit, or at a recessive one outside the 8 data bits of the header; elsewhere and without an
attempt none can come (log entry 3). At the first bit no start bit stood on the line, and the assembler is READY as before it
(R74, R76), having gone to FRAME at the attempt's start (log entry 7). The place of a bit is rounded down from the time (log
entry 19). The retry count after a failed recovery is log entry 17. -/
def Obligations.FailuresIsolate : Prop :=
  ∀ (after : Nat) (s : State),
    (s.lin.attempt = none → s.nextNotice.isSome = true → s.lin.retry ≤ 7 →
      ∃ t, exec (.dominantCount after) s = .next t ∧
        FailureCounted { s.elapse after with lin.idle := .counting (s.now + after) } t) ∧
    (s.lin.attempt.isSome = true ∨ s.nextNotice = none →
      exec (.dominantCount after) s = .next { s.elapse after with lin.idle := .counting (s.now + after) }) ∧
    (∀ (a : Attempt) (k : Nat) (bit : Option Bool), s.lin.attempt = some a →
      k = (s.now + after - a.start) * 19200 / 1000000 → bit = (frameBits a.frame)[k]? →
      (∀ recessive, bit = some recessive → recessive = false ∨ k = 0 ∨ 9 ≤ k → s.lin.retry ≤ 7 →
        ∃ t, exec (.bitError after) s = .next t ∧
          FailureCounted
            { s.elapse after with
              lin.attempt := none
              lin.idle := .counting (s.now + after)
              lin.assembler := if k = 0 ∧ s.lin.assembler = .frame then .ready else s.lin.assembler } t) ∧
      (bit = none ∨ (bit = some true ∧ 1 ≤ k ∧ k ≤ 8) →
        exec (.bitError after) s = .next (s.elapse after))) ∧
    (s.lin.attempt = none → exec (.bitError after) s = .next (s.elapse after))

/-- ATTEMPT_START takes the head of the queue in the order of R115, or the recovery Status, when the line is idle and none
is being sent; the retry count goes on only for the notice of the attempt before. ARBITRATION_LOST, at a recessive one of the
8 data bits of the header, ends an attempt and leaves the notice and its count (R82, R83, R84, R85, R88, R91, R115). Where
those conditions fail nothing comes of either (log entry 3). The line is idle while the idle timer stands at 12; that the
timer stands there at the time of LINE_IDLE, and afterwards at what a free value gives, is log entries 7 and 27; that the
assembler goes from READY to FRAME at the attempt's start is log entry 7; that the place of a bit is rounded down from the
time is log entry 19. -/
def Obligations.AttemptStarts : Prop :=
  (∀ (after : Nat) (s : State) (k : NoticeKey),
    (s.lin.attempt = none → (s.elapse after).idleTimer = 12 → s.nextNotice = some k →
      exec (.attemptStart after) s =
        .next
          { s.elapse after with
            lin.attempt := some { notice := k, frame := noticeFrame (buildNotice s k), start := s.now + after }
            lin.retry := if s.lin.lastNotice = some k then s.lin.retry else 0
            lin.lastNotice := some k
            lin.idle := .counting (s.now + after)
            lin.assembler := if s.lin.assembler = .ready then .frame else s.lin.assembler }) ∧
    (s.lin.attempt.isSome = true ∨ (s.elapse after).idleTimer ≠ 12 ∨ s.nextNotice = none →
      exec (.attemptStart after) s = .next (s.elapse after)) ∧
    (s.lin.attempt = none →
      ((s.elapse after).idleTimer = 12 ↔
        s.cfg.mode ≠ .starting ∧
          ∃ reached, s.lin.idle = .full reached ∧
            (s.now + after ≤ reached ∨ 12 ≤ Config.lineRun s.resets (s.now + after)))) ∧
    (∀ (a : Attempt) (i : Nat), s.lin.attempt = some a → i = (s.now + after - a.start) * 19200 / 1000000 →
      (1 ≤ i → i ≤ 8 → (frameBits a.frame)[i]? = some true →
        exec (.arbitrationLost after) s =
          .next { s.elapse after with lin.attempt := none, lin.idle := .counting (s.now + after) }) ∧
      (i = 0 ∨ 9 ≤ i ∨ (frameBits a.frame)[i]? ≠ some true →
        exec (.arbitrationLost after) s = .next (s.elapse after))) ∧
    (s.lin.attempt = none → exec (.arbitrationLost after) s = .next (s.elapse after))) ∧
  ∀ s : State,
    (s.lin.recovering = true → s.nextNotice = some .recovery) ∧
    (s.lin.recovering = false →
      s.cfg.mode = .starting ∨ s.cfg.mode = .isolated ∨ s.cfg.mode = .silent → s.nextNotice = none) ∧
    (s.lin.recovering = false → s.cfg.mode = .joining ∨ s.cfg.mode = .run ∨ s.cfg.mode = .monitorOnly →
      s.nextNotice =
        [(decide (s.clm.eq.state = .releasing), NoticeKey.release .eq s.clm.eq.tag),
          (decide (s.clm.water.state = .releasing), .release .water s.clm.water.tag),
          (decide (s.clm.eq.state = .queued), .claim .eq s.clm.eq.tag),
          (decide (s.clm.water.state = .queued), .claim .water s.clm.water.tag),
          (s.clm.reportQueued, .report), (s.clm.statusQueued, .status)].findSome?
            (fun slot => if slot.1 then some slot.2 else none))

/-- ATTEMPT_COMPLETE: the notice is sent and the retry count 0; a Release ends its claim, a Claim starts its contention
window, or, withdrawn meanwhile, its Release and the back-off; a Report or Status leaves the queue; the recovery Status
brings the node back to JOINING (R75, R87, R88, R91, R117, R118, R195); a notice that follows is another than the one just
sent. A completed Claim or Release that meets another machine changes nothing (log entry 14), and the frame's end is rounded
up to whole microseconds (log entry 19). -/
def Obligations.AttemptCompletes : Prop :=
  ∀ (s : State) (a : Attempt) (u : State), s.lin.attempt = some a →
    ∀ ends now, ends = a.start + (10 * a.frame.length * 1000000 + 19199) / 19200 → now = max s.now ends →
    u =
      { s.reach ends with
        lin.attempt := none
        lin.lastNotice := none
        lin.retry := 0
        lin.idle := .counting now
        lin.assembler := .hunt } →
    ∃ t, exec .attemptComplete s = .next t ∧
      (∀ r tag, a.notice = .release r tag → ∀ m, m = s.clm.machine r →
        (m.state = .releasing → m.tag = tag → t = { u with clm := u.clm.withMachine r { m with state := .none } }) ∧
        (m.state ≠ .releasing ∨ m.tag ≠ tag → t = u)) ∧
      (∀ r tag, a.notice = .claim r tag → ∀ m, m = s.clm.machine r →
        (m.state = .queued → m.tag = tag →
          t =
            { u with
              clm :=
                u.clm.withMachine r
                  { m with state := .contending, windowTimer := some (u.now + s.cfg.config.window * 1000000) } }) ∧
        (m.state = .none →
          t =
            State.backingOff
              { u with
                clm := u.clm.withMachine r { m with state := .releasing, tag := tag, reason := .withdrawn } } r) ∧
        (m.state ≠ .none → m.state ≠ .queued ∨ m.tag ≠ tag → t = u)) ∧
      (a.notice = .report → t = { u with clm.reportQueued := false }) ∧
      (a.notice = .status → t = { u with clm.statusQueued := false }) ∧
      (a.notice = .recovery →
        t =
          { u with
            cfg.mode := .joining
            cfg.joiningTimer := some (u.now + (2 * s.cfg.config.period + 1) * 1000000)
            clm.statusTimer := some (u.now + s.address * 400000 % (s.cfg.config.period * 1000000))
            lin.recovering := false
            lin.isolationTimer := none })

/-- A notice that fits its fields and the table of R78 comes out of its frame as it went in: header, CRC, length, body and
claim parts (R74, R77, R78, R81, R201). -/
def Obligations.NoticesRoundTrip : Prop :=
  ∀ (nSite : Nat) (n : Notice), nSite ≤ 24 → n.Fits nSite → decodeNotice nSite (noticeFrame n) = some n

/-- Every notice the part sends from an address of the site is a valid notice for a node of the same site, its contents are
accepted there, and they show the part as it is: the Status its mode, round, flags, score, urgency and the parts of its
claims CONTENDING or HELD, the Claim and the Release what the machine froze, the Report the account byte by byte (R15, R25,
R32, R78, R81, R83, R91, R97, R114, R140, R200, R201). -/
def Obligations.OwnNoticesAreTaken : Prop :=
  ∀ (s : State) (k : NoticeKey), ValuesInRange s → s.nextNotice = some k → 1 ≤ s.address →
    s.address ≤ s.cfg.config.nSite →
    decodeNotice s.cfg.config.nSite (noticeFrame (buildNotice s k)) = some (buildNotice s k) ∧
      (buildNotice s k).source = s.address ∧
      (k = .status ∨ k = .recovery →
        ∃ b, buildNotice s k = .status s.address b ∧ b.Acceptable ∧
          (s.acc.forceEq = true → b.score = 1000) ∧
          (s.acc.forceEq = false → b.score = s.acc.tt + s.acc.tq + s.acc.ts) ∧ b.urgency = s.acc.urgency ∧
          StatusShows s b ∧
          (k = .status →
            [NodeMode.joining, .run, .monitorOnly][b.mode.toNat - 1]? = some s.cfg.mode ∧ PartsShow s b) ∧
          (k = .recovery → s.lin.recovering = true ∧ b.mode = 1#8 ∧ b.eqPart = none ∧ b.waterPart = none)) ∧
      (∀ r tag, k = .claim r tag →
        ∃ share, buildNotice s k =
            .claim s.address (if r = .eq then 1#8 else 2#8) (BitVec.ofNat 8 tag) (s.clm.machine r).snapshot share ∧
          share = (if r = .eq then s.clm.eq.share else 0) ∧ 1 ≤ tag ∧ tag ≤ 255 ∧ (s.clm.machine r).snapshot ≤ 1000) ∧
      (∀ r tag, k = .release r tag →
        ∃ reason : Byte, buildNotice s k =
            .release s.address (if r = .eq then 1#8 else 2#8) (BitVec.ofNat 8 tag) reason ∧
          1 ≤ tag ∧ tag ≤ 255 ∧ 1 ≤ reason.toNat ∧
          [ReleaseReason.done, .withdrawn, .yielded, .aborted][reason.toNat - 1]? = some (s.clm.machine r).reason) ∧
      (k = .report → ∃ body, buildNotice s k = .report s.address body ∧ ReportShows s body)

/-- A frame heard: nothing is received in STARTING, a frame that comes in HUNT is ignored, a frame that is no valid notice
is discarded, and a valid notice from the own address is handed to nobody and is a clash in every mode but SILENT (R71, R75,
R76, R77, R78, R79, R80, R92, R93, R138, R158, R175). The model's own: that a clash is found under any of the frame rows is
log entry 5; that a frame is ignored whole in HUNT and leaves the idle timer at the recessive bits it ends in log entry 6;
that those bits are rounded up to whole microseconds log entry 19; and that an own-address notice is handed to nobody in
SILENT log entry 24. -/
def Obligations.FramesAreHeard : Prop :=
  ∀ (c : Instr) (after : Nat) (frame : List Byte) (s : State), FrameCommand c after frame →
    (s.cfg.mode = .starting → exec c s = .next (s.elapse after)) ∧
    (s.cfg.mode ≠ .starting → s.lin.assembler = .hunt →
      (∀ (early : List Byte) (last : Byte) (n : Nat), frame = early ++ [last] → RecessiveEnd last n →
        exec c s =
          .next
            { s.elapse after with
              lin.idle := .tail (s.now + after - (n * 1000000 + 19199) / 19200) (s.now + after) }) ∧
      (frame = [] →
        exec c s = .next { s.elapse after with lin.idle := .tail (s.now + after) (s.now + after) })) ∧
    (s.cfg.mode ≠ .starting → s.lin.assembler ≠ .hunt → decodeNotice s.cfg.config.nSite frame = none →
      exec c s = .next (s.frameHeard after)) ∧
    ∀ n, s.cfg.mode ≠ .starting → s.lin.assembler ≠ .hunt → decodeNotice s.cfg.config.nSite frame = some n →
      n.source = s.address →
      (s.cfg.mode = .silent → exec c s = .next (s.frameHeard after)) ∧
      (s.cfg.mode ≠ .silent →
        ∃ t, exec c s = .next t ∧ LeavesLine .silent .clash (s.frameHeard after) t)

/-! ### The notices of peers -/

/-- A Status with acceptable contents gives the record all it reports, its claims too, and renews it; refused contents leave
the table as it is. A claim it shows, new or changed, that conflicts with an own QUEUED or CONTENDING claim of its resource
and outranks it makes that claim lost, as a Claim does; otherwise, and with no own claim to test, nothing else changes. A
HELD own claim gives way to no CONTENDING one (R79, R97, R98, R99, R100, R101, R105, R119, R125, R126, R127, R128, R129,
R130). -/
def Obligations.StatusNotices : Prop :=
  ∀ (after : Nat) (frame : List Byte) (s : State) (source : Nat) (b : StatusBody),
    Hears s frame (.status source b) →
    (¬ b.Acceptable → exec (.statusNotice after frame) s = .next (s.frameHeard after)) ∧
    (b.Acceptable → ∀ p : PeerRecord,
      p =
        { address := source
          mode := if b.mode = 1#8 then .joining else if b.mode = 2#8 then .run else .monitorOnly
          available := b.flags.getLsbD 15
          discharging := b.flags.getLsbD 14
          eqClaim := b.eqPart.map fun e =>
            { tag := e.tag.toNat, share := e.share, snapshot := e.snapshot,
              phase := if e.phase = 1#8 then .contending else .held }
          waterClaim := b.waterPart.map fun e =>
            { tag := e.tag.toNat, snapshot := e.snapshot, phase := if e.phase = 1#8 then .contending else .held }
          age := 0 } →
      ∃ u t, exec (.statusNotice after frame) s = .next t ∧ PeerWritten s.ptb u.ptb p ∧
        u = { s.frameHeard after with ptb := u.ptb } ∧
        ((∀ r, (s.clm.machine r).state = .none ∨ (s.clm.machine r).state = .releasing) → t = u) ∧
        ∀ (r other : Resource) (told beats : Prop), other ≠ r →
          (s.clm.machine other).state = .none ∨ (s.clm.machine other).state = .releasing →
          (told ↔
            match r with
            | .eq =>
                ∃ e, p.eqClaim = some e ∧ ∀ q c, findPeer s.ptb source = some q → q.eqClaim = some c →
                  c.tag = e.tag → c.phase ≠ e.phase ∨ c.share ≠ e.share
            | .water =>
                ∃ e, p.waterClaim = some e ∧ ∀ q c, findPeer s.ptb source = some q → q.waterClaim = some c →
                  c.tag = e.tag → c.phase ≠ e.phase) →
          (beats ↔
            match r with
            | .eq =>
                ∃ e, p.eqClaim = some e ∧ ¬ NoConflict u p e.share ∧
                  (e.phase = .held ∨ Outranks e.snapshot source s.clm.eq.snapshot s.address)
            | .water =>
                ∃ e, p.waterClaim = some e ∧
                  (e.phase = .held ∨ Outranks e.snapshot source s.clm.water.snapshot s.address)) →
          (claimPending (s.clm.machine r).state → ¬ (told ∧ beats) → t = u) ∧
          ((s.clm.machine r).state = .held →
            ¬ told ∨ (match r with
              | .eq => ∀ e, p.eqClaim = some e → e.phase = .contending
              | .water => ∀ e, p.waterClaim = some e → e.phase = .contending) → t = u) ∧
          (told → beats → s.rnd.round = (match r with | .eq => .claiming | .water => .waterClaiming) →
            ((s.clm.machine r).state = .queued →
              t =
                { (u.unqueued r).backingOff r with
                  rnd.round := match r with | .eq => .due | .water => .waterDue }) ∧
            ((s.clm.machine r).state = .contending →
              t = { u.withdrawn r with rnd.round := match r with | .eq => .due | .water => .waterDue })))

/-- A Claim with acceptable contents puts a CONTENDING claim into the record unless it holds one of that tag; when it is new,
conflicts with the own claim and outranks it, the own claim is lost: out of the queue with the back-off, or withdrawn with a
Release and the back-off, and the string waits again. A HELD claim is not touched by it (R97, R98, R99, R102, R105, R119,
R125, R126, R127, R128, R129, R130). -/
def Obligations.ClaimNotices : Prop :=
  ∀ (after : Nat) (frame : List Byte) (s : State) (source : Nat) (code tag : Byte) (snapshot share : Nat),
    Hears s frame (.claim source code tag snapshot share) →
    ((code ≠ 1#8 ∧ code ≠ 2#8) ∨ tag = 0#8 ∨ 1000 < snapshot →
      exec (.claimNotice after frame) s = .next (s.frameHeard after)) ∧
    ∀ (r : Resource) (p q : PeerRecord) (same : Prop), code = (match r with | .eq => 1#8 | .water => 2#8) →
      tag ≠ 0#8 → snapshot ≤ 1000 → RecordRenewed s.ptb source p →
      (same ↔
        match r with
        | .eq => p.eqClaim.map EqClaim.tag = some tag.toNat
        | .water => p.waterClaim.map WaterClaim.tag = some tag.toNat) →
      (same → q = p) →
      (¬ same →
        q =
          match r with
          | .eq =>
              { p with eqClaim := some { tag := tag.toNat, share := share, snapshot := snapshot, phase := .contending } }
          | .water => { p with waterClaim := some { tag := tag.toNat, snapshot := snapshot, phase := .contending } }) →
      ∃ u t, exec (.claimNotice after frame) s = .next t ∧ PeerWritten s.ptb u.ptb q ∧
        u = { s.frameHeard after with ptb := u.ptb } ∧
        ∀ loses : Prop,
          (loses ↔
            ¬ same ∧ ((s.clm.machine r).state = .queued ∨ (s.clm.machine r).state = .contending) ∧
              (r = .eq → ¬ NoConflict u q share) ∧
              Outranks snapshot source (s.clm.machine r).snapshot s.address) →
          (¬ loses → t = u) ∧
          (loses → s.rnd.round = (match r with | .eq => .claiming | .water => .waterClaiming) →
            ((s.clm.machine r).state = .queued →
              t =
                { (u.unqueued r).backingOff r with
                  rnd.round := match r with | .eq => .due | .water => .waterDue }) ∧
            ((s.clm.machine r).state = .contending →
              t = { u.withdrawn r with rnd.round := match r with | .eq => .due | .water => .waterDue }))

/-- A Release with acceptable contents removes the claim of its resource and tag from the record and renews the record; a
Report renews it; neither touches anything else (R97, R98, R99, R103, R104, R105). -/
def Obligations.ReleaseAndReportNotices : Prop :=
  ∀ (after : Nat) (frame : List Byte) (s : State) (source : Nat),
    (∀ code tag reason : Byte, Hears s frame (.release source code tag reason) →
      ((code ≠ 1#8 ∧ code ≠ 2#8) ∨ tag = 0#8 ∨ reason = 0#8 ∨ 4 < reason.toNat →
        exec (.releaseNotice after frame) s = .next (s.frameHeard after)) ∧
      ∀ (r : Resource) (p q : PeerRecord), code = (match r with | .eq => 1#8 | .water => 2#8) → tag ≠ 0#8 →
        reason ≠ 0#8 → reason.toNat ≤ 4 → RecordRenewed s.ptb source p →
        q =
          (match r with
            | .eq => { p with eqClaim := p.eqClaim.filter fun c => c.tag ≠ tag.toNat }
            | .water => { p with waterClaim := p.waterClaim.filter fun c => c.tag ≠ tag.toNat }) →
        ∃ t, exec (.releaseNotice after frame) s = .next t ∧ PeerWritten s.ptb t.ptb q ∧
          t = { s.frameHeard after with ptb := t.ptb }) ∧
    ∀ (body : List Byte) (p : PeerRecord), Hears s frame (.report source body) → RecordRenewed s.ptb source p →
      ∃ t, exec (.reportNotice after frame) s = .next t ∧ PeerWritten s.ptb t.ptb p ∧
        t = { s.frameHeard after with ptb := t.ptb }

/-- A Status that shows a peer's HELD claim, new or changed, in conflict with the own HELD claim and outranking it, makes the
own claim yield: marked, and the round ends YIELDED at once, or back after the window in TRANSFER_OUT; in TRANSFER_BACK and
STUCK only the mark is set. A claim already yielding, and one that outranks, stands. A part for the other resource says
nothing where the part has no claim of that to test (R105, R125, R126, R127, R128, R131, R148, R149, R155, R175). -/
def Obligations.HeldClaimsYield : Prop :=
  ∀ (after : Nat) (frame : List Byte) (s : State) (source : Nat) (b : StatusBody) (p : PeerRecord),
    Hears s frame (.status source b) → b.Acceptable → RecordRenewed s.ptb source p →
    (∀ e : EqPart, b.eqPart = some e → e.phase = 2#8 → s.clm.eq.state = .held →
      b.waterPart = none ∨ s.clm.water.state = .none ∨ s.clm.water.state = .releasing →
      (∀ c, p.eqClaim = some c → c.tag = e.tag.toNat → c.phase = .held → c.share ≠ e.share) →
      ∃ u v q t, exec (.statusNotice after frame) s = .next t ∧ PeerWritten s.ptb u.ptb q ∧ q.address = source ∧
        q.eqClaim = some { tag := e.tag.toNat, share := e.share, snapshot := e.snapshot, phase := .held } ∧
        q.available = b.flags.getLsbD 15 ∧ q.discharging = b.flags.getLsbD 14 ∧ q.mode ≠ .unreported ∧ q.age = 0 ∧
        u = { s.frameHeard after with ptb := u.ptb } ∧ v = { u with clm.eq.yielding := true } ∧
        (s.clm.eq.yielding = true ∨ NoConflict u q e.share ∨
          ¬ Outranks e.snapshot source s.clm.eq.snapshot s.address → t = u) ∧
        (s.clm.eq.yielding = false → ¬ NoConflict u q e.share →
          Outranks e.snapshot source s.clm.eq.snapshot s.address →
          (s.rnd.round = .transferBack ∨ s.rnd.round = .stuck → t = v) ∧
          (s.rnd.round = .transferOut → t = { v with rnd.deferred := s.rnd.deferred.or (some .yield) }) ∧
          ∀ r, s.rnd.record = some r → r.outcome = none →
            (s.rnd.round = .prepare →
              EqualiseEnded .yielded none r.openedAt { v with rnd.chargerWait := none } t) ∧
            (s.rnd.round = .equalising ∨ s.rnd.round = .soak → t = v.sentBack r .yielded none))) ∧
    ∀ e : WaterPart, b.waterPart = some e → e.phase = 2#8 → s.clm.water.state = .held →
      b.eqPart = none ∨ s.clm.eq.state = .none ∨ s.clm.eq.state = .releasing →
      (∀ c, p.waterClaim = some c → c.tag = e.tag.toNat → c.phase ≠ .held) →
      ∃ u t, exec (.statusNotice after frame) s = .next t ∧ u = { s.frameHeard after with ptb := t.ptb } ∧
        (s.clm.water.yielding = true ∨ ¬ Outranks e.snapshot source s.clm.water.snapshot s.address → t = u) ∧
        (s.clm.water.yielding = false → Outranks e.snapshot source s.clm.water.snapshot s.address →
          s.rnd.round = .watering → ∀ r, s.rnd.record = some r → r.outcome = none →
            WateringEnded .yielded none r.openedAt { u with clm.water.yielding := true } t)

/-- The ranking of conflicting claims: HELD before CONTENDING, then the higher snapshot, then the lower address; of two
claims of different stations exactly one outranks the other, and the order is transitive. An own QUEUED claim ranks as
CONTENDING, and a peer's with what its record holds (R127). -/
def Obligations.RankDecides : Prop :=
  (∀ (n n' a a' : Nat), outranks .held n a .contending n' a' = true ∧ outranks .contending n a .held n' a' = false) ∧
  (∀ (p : ClaimPhase) (n n' a a' : Nat), outranks p n a p n' a' = true ↔ n' < n ∨ (n = n' ∧ a < a')) ∧
  (∀ (p p' : ClaimPhase) (n n' a a' : Nat), a ≠ a' →
    (outranks p n a p' n' a' = true ↔ outranks p' n' a' p n a = false)) ∧
  (∀ (p p' p'' : ClaimPhase) (n n' n'' a a' a'' : Nat), outranks p n a p' n' a' = true →
    outranks p' n' a' p'' n'' a'' = true → outranks p n a p'' n'' a'' = true) ∧
  ∀ (s : State) (p : PeerRecord) (own : ClaimPhase),
    (∀ c : EqClaim, (claimPending s.clm.eq.state ∧ own = .contending) ∨ (s.clm.eq.state = .held ∧ own = .held) →
      eqConflict s p c = true →
      (eqLoses s p c = true ↔ outranks c.phase c.snapshot p.address own s.clm.eq.snapshot s.address = true)) ∧
    ∀ c : WaterClaim, (claimPending s.clm.water.state ∧ own = .contending) ∨ (s.clm.water.state = .held ∧ own = .held) →
      (waterLoses s p c = true ↔ outranks c.phase c.snapshot p.address own s.clm.water.snapshot s.address = true)

/-! ### The contention window -/

/-- The expiry of the EQ contention window: the hold check with the frozen share, then HELD with the round opened in PREPARE
and on to TRANSFER_OUT with the charger ready, or the claim withdrawn and the string DUE (R109, R123, R124, R136, R144, R147,
R149, R151). -/
def Obligations.EqHoldIsChecked : Prop :=
  ∀ (s u : State) (d unclaimed committed : Nat) (passes : Prop), s.clm.eq.windowTimer = some d →
    s.clm.eq.state = .contending → s.rnd.round = .claiming → u = (s.reach d) →
    unclaimed =
      s.ptb.countP (fun p =>
        p.age ≤ 3 * s.cfg.config.period ∧ p.available = true ∧ p.discharging = false ∧ p.mode ≠ .unreported ∧
          p.eqClaim = none) + (if s.acc.discharging then 0 else 1) →
    committed = (s.ptb.map fun p => match p.eqClaim with | some c => c.share | none => 0).sum →
    (passes ↔
      s.cfg.hold = false ∧ s.cfg.config.rMin + 1 ≤ unclaimed ∧ committed + s.clm.eq.share ≤ s.cfg.config.eBus) →
    ∃ t, exec (.contentionWindowExpiry .eq) s = .next t ∧
      (¬ passes → t = { u.withdrawn .eq with rnd.round := .due }) ∧
      (passes → ∀ (r : OpenRecord) (v : State),
        r = { kind := .equalise, outcome := none, cause := none, openedAt := u.now } →
        v =
          { u with
            clm.eq := { s.clm.eq with state := .held, windowTimer := none, yielding := false }
            clm.history := []
            clm.lowRun := 0
            rnd.round := .prepare
            rnd.record := some r
            rnd.demand := true
            rnd.chargerWait := some (u.now + 120000000)
            rnd.pending := s.clm.eq.share
            rnd.pendingValid := true } →
        (s.fld.crdy.active = false → t = v) ∧ (s.fld.crdy.active = true → TransferOutEntered r v t))

/-- The expiry of the WATER contention window: with no hold and the line free the claim is HELD, the round opened, the plan
built by descending target and its first group started, or the round ended COMPLETE; otherwise the claim is withdrawn and
the string WATER_DUE (R110, R123, R124, R165, R166, R167, R168, R169). That a pulse's opening stops a drain grace still
running from an earlier round is log entry 16. -/
def Obligations.WaterHoldIsChecked : Prop :=
  ∀ (s u : State) (d : Nat) (passes : Prop), s.clm.water.windowTimer = some d → s.clm.water.state = .contending →
    s.rnd.round = .waterClaiming → u = (s.reach d) →
    (passes ↔ s.cfg.hold = false ∧ ∀ p ∈ s.ptb, p.waterClaim = none) →
    ∃ t, exec (.contentionWindowExpiry .water) s = .next t ∧
      (¬ passes → t = { u.withdrawn .water with rnd.round := .waterDue }) ∧
      (passes → s.wat.groups.length = 8 → ∃ v list, PlanMade v list ∧ GroupsStarted u.now list v t ∧
        v.wat.groups.length = 8 ∧ (∀ g, GroupPlanned u g (v.group g)) ∧
        v =
          { u with
            clm.water := { s.clm.water with state := .held, windowTimer := none, yielding := false }
            rnd.round := .watering
            rnd.record := some { kind := .watering, outcome := none, cause := none, openedAt := u.now }
            wat :=
              { s.wat with
                unexplained := false
                roundLimit := some (u.now + 7200000000)
                noFlow := 0
                groups := v.wat.groups } })

/-! ### The site panel -/

/-- HOLD: a parameter above 0 sets or restarts the hold for at most 1440 minutes; at its start a QUEUED claim leaves the
queue, a CONTENDING one is withdrawn, and the string waits again, while a HELD one runs on; 0 ends the hold, as the timer's
expiry does. It counts in every mode but STARTING and SILENT, and a Status is requested (R79, R116, R129, R130, R134, R197,
R198). -/
def Obligations.HoldSetsAndEnds : Prop :=
  (∀ (after : Nat) (frame : List Byte) (s u : State) (dest m : Nat), Hears s frame (.directive dest 1#8 m) →
    dest = 0 ∨ dest = s.address → u = s.frameHeard after →
    (s.cfg.mode = .silent → exec (.hold after frame) s = .next u) ∧
    (s.cfg.mode ≠ .silent →
      (m = 0 → s.cfg.hold = false → exec (.hold after frame) s = .next u) ∧
      (m = 0 → s.cfg.hold = true →
        exec (.hold after frame) s = .next (State.statusAsked { u with cfg.hold := false, cfg.holdTimer := none })) ∧
      ∀ e, e = s.now + after + min m 1440 * 60000000 →
        (0 < m → s.cfg.hold = true →
          exec (.hold after frame) s = .next (State.statusAsked { u with cfg.holdTimer := some e })) ∧
        (0 < m → s.cfg.hold = false → ¬ claimPending s.clm.eq.state → ¬ claimPending s.clm.water.state →
          exec (.hold after frame) s =
            .next (State.statusAsked { u with cfg.hold := true, cfg.holdTimer := some e })) ∧
        ∀ r : Resource, 0 < m → s.cfg.hold = false →
          s.rnd.round = (match r with | .eq => .claiming | .water => .waterClaiming) →
          ¬ claimPending (s.clm.machine (match r with | .eq => .water | .water => .eq)).state →
          ((s.clm.machine r).state = .queued →
            exec (.hold after frame) s =
              .next
                (State.statusAsked
                  { u.unqueued r with
                    rnd.round := match r with | .eq => .due | .water => .waterDue
                    cfg.hold := true
                    cfg.holdTimer := some e })) ∧
          ((s.clm.machine r).state = .contending →
            exec (.hold after frame) s =
              .next
                (State.statusAsked
                  { u.withdrawn r with
                    rnd.round := match r with | .eq => .due | .water => .waterDue
                    cfg.hold := true
                    cfg.holdTimer := some e })))) ∧
  ∀ s : State,
    (∀ d, s.cfg.holdTimer = some d →
      exec .holdTimerExpiry s =
        .next (State.statusAsked { s.reach d with cfg.hold := false, cfg.holdTimer := none })) ∧
    (s.cfg.holdTimer = none → exec .holdTimerExpiry s = .next s)

/-- STOP, by round state and claim: a waiting string goes to FLOAT with its back-off, a pending claim is taken back with its
back-off, a HELD round ends or goes back ABORTED with cause STOP, TRANSFER_OUT defers it, and in every other state nothing
happens but the Status request; in SILENT it is discarded (R79, R116, R130, R135, R148, R149, R155, R175, R197). -/
def Obligations.StopActsByState : Prop :=
  ∀ (after : Nat) (frame : List Byte) (s u : State) (dest m : Nat), Hears s frame (.directive dest 2#8 m) →
    dest = 0 ∨ dest = s.address → u = s.frameHeard after →
    (s.cfg.mode = .silent → exec (.stop after frame) s = .next u) ∧
    (s.cfg.mode ≠ .silent → ∃ v t, exec (.stop after frame) s = .next t ∧ t = v.statusAsked ∧
      (s.rnd.round = .float ∨ s.rnd.round = .rest ∨ s.rnd.round = .inhibited ∨ s.rnd.round = .transferBack ∨
        s.rnd.round = .stuck → v = u) ∧
      (∀ r : Resource, s.rnd.round = (match r with | .eq => .due | .water => .waterDue) →
        v = { u.backingOff r with rnd.round := .float }) ∧
      (∀ r : Resource, s.rnd.round = (match r with | .eq => .claiming | .water => .waterClaiming) →
        ((s.clm.machine r).state = .queued → v = { (u.unqueued r).backingOff r with rnd.round := .float }) ∧
        ((s.clm.machine r).state = .contending → v = { u.withdrawn r with rnd.round := .float })) ∧
      (s.clm.eq.state = .held → s.rnd.round = .transferOut →
        v = { u with rnd.deferred := s.rnd.deferred.or (some .stop) }) ∧
      ∀ r, s.rnd.record = some r → r.outcome = none →
        (s.clm.eq.state = .held → s.rnd.round = .prepare →
          EqualiseEnded .aborted (some .stop) r.openedAt { u with rnd.chargerWait := none } v) ∧
        (s.clm.eq.state = .held → s.rnd.round = .equalising ∨ s.rnd.round = .soak →
          v = u.sentBack r .aborted (some .stop)) ∧
        (s.clm.water.state = .held → s.rnd.round = .watering →
          WateringEnded .aborted (some .stop) r.openedAt u v))

/-- FORCE_EQ and FORCE_WATER set their flags in RUN alone; CLEAR, with a latch set, clears both latches and the dry latch
timer, lets INHIBITED go to FLOAT and a STUCK string retry its recovery check; QUERY queues a Report; a directive for
another node does nothing. That a frame of another code does nothing in these rows is log entry 5 (R61, R79, R116, R145,
R160, R161, R197, R199, R200). -/
def Obligations.ForcesClearsAndQueries : Prop :=
  ∀ (after : Nat) (frame : List Byte) (s u : State) (dest m : Nat) (code : Byte),
    Hears s frame (.directive dest code m) → u = s.frameHeard after →
    (¬ (dest = 0 ∨ dest = s.address) →
      exec (.hold after frame) s = .next u ∧ exec (.stop after frame) s = .next u ∧
        exec (.forceEq after frame) s = .next u ∧ exec (.forceWater after frame) s = .next u ∧
        exec (.clear after frame) s = .next u ∧ exec (.query after frame) s = .next u) ∧
    (code ≠ 1#8 → exec (.hold after frame) s = .next u) ∧ (code ≠ 2#8 → exec (.stop after frame) s = .next u) ∧
    (code ≠ 3#8 ∨ s.cfg.mode ≠ .run → exec (.forceEq after frame) s = .next u) ∧
    (code ≠ 4#8 ∨ s.cfg.mode ≠ .run → exec (.forceWater after frame) s = .next u) ∧
    (code ≠ 5#8 ∨ s.cfg.mode = .silent ∨ (s.rnd.inhibit = false ∧ s.wat.dry = false) →
      exec (.clear after frame) s = .next u) ∧
    (code ≠ 6#8 → exec (.query after frame) s = .next u) ∧
    (dest = 0 ∨ dest = s.address →
      (code = 3#8 → s.cfg.mode = .run →
        exec (.forceEq after frame) s = .next (State.statusAsked { u with acc.forceEq := true })) ∧
      (code = 4#8 → s.cfg.mode = .run →
        exec (.forceWater after frame) s = .next (State.statusAsked { u with acc.forceWater := true })) ∧
      (code = 6#8 →
        exec (.query after frame) s =
          .next { u with clm.reportQueued := s.clm.reportQueued || queueOpen s.cfg.mode }) ∧
      (code = 5#8 → s.cfg.mode ≠ .silent → s.rnd.inhibit = true ∨ s.wat.dry = true →
        ∃ q v t, exec (.clear after frame) s = .next t ∧ t = v.statusAsked ∧
          q = { u with rnd.inhibit := false, wat.dry := false, wat.dryTimer := none } ∧
          (s.rnd.round = .inhibited → v = { q with rnd.round := .float }) ∧
          (s.rnd.round = .stuck → ∀ r o, s.rnd.record = some r → r.outcome = some o →
            RecoveryStarted false o r.cause r.openedAt (q.backEntered r o r.cause) v) ∧
          (s.rnd.round ≠ .inhibited → s.rnd.round ≠ .stuck → v = q)))

/-! ### Timers of the node -/

/-- What the expiry of the Status period, the joining timer, a back-off, the isolation timer, the rest period, the
early-flow limit and the dry latch timer each does, and a PWM period's start (R91, R116, R117, R130, R159, R171, R178, R186,
R195); an expiry whose timer does not run changes nothing (log entry 3), a late PWM start catches up (log entry 19). -/
def Obligations.TimersExpire : Prop :=
  ∀ s : State,
    (∀ d, s.clm.statusTimer = some d →
      exec .statusPeriodExpiry s =
        .next
          (State.statusAsked
            { s.reach d with clm.statusTimer := some (d + s.cfg.config.period * 1000000) })) ∧
    (s.clm.statusTimer = none → exec .statusPeriodExpiry s = .next s) ∧
    (∀ d, s.cfg.joiningTimer = some d →
      exec .joiningTimerExpiry s =
        .next
          { s.reach d with
            cfg.joiningTimer := none
            cfg.mode := if s.cfg.failed then .monitorOnly else .run }) ∧
    (s.cfg.joiningTimer = none → exec .joiningTimerExpiry s = .next s) ∧
    (∀ r d, s.clm.backOff r = some d →
      exec (.backOffExpiry r) s = .next { s.reach d with clm := s.clm.withBackOff r none }) ∧
    (∀ r, s.clm.backOff r = none → exec (.backOffExpiry r) s = .next s) ∧
    (∀ d, s.lin.isolationTimer = some d →
      exec .recoveryAttempt s =
        .next { s.reach d with lin.isolationTimer := none, lin.recovering := true }) ∧
    (s.lin.isolationTimer = none → exec .recoveryAttempt s = .next s) ∧
    (∀ d, s.rnd.restPeriod = some d → s.rnd.round = .rest →
      exec .restPeriodExpiry s =
        .next { s.reach d with rnd.restPeriod := none, rnd.round := .float }) ∧
    (s.rnd.restPeriod = none → exec .restPeriodExpiry s = .next s) ∧
    (∀ d, s.wat.earlyLimit = some d →
      exec .earlyFlowLimitExpiry s = .next { s.reach d with wat.earlyLimit := none }) ∧
    (s.wat.earlyLimit = none → exec .earlyFlowLimitExpiry s = .next s) ∧
    (∀ d, s.wat.dryTimer = some d →
      exec .dryLatchExpiry s = .next { s.reach d with wat.dry := false, wat.dryTimer := none }) ∧
    (s.wat.dryTimer = none → exec .dryLatchExpiry s = .next s) ∧
    (s.now < s.fld.pwmStart + 2048 →
      exec .pwmPeriodStart s =
        .next
          { s.reach (s.fld.pwmStart + 1024) with
            fld.pwmStart := s.fld.pwmStart + 1024
            fld.pwmDuty := s.rnd.duty }) ∧
    (s.fld.pwmStart + 2048 ≤ s.now →
      ∃ k, s.fld.pwmStart + k * 1024 ≤ s.now ∧ s.now < s.fld.pwmStart + k * 1024 + 1024 ∧
        exec .pwmPeriodStart s =
          .next
            { s.reach (s.fld.pwmStart + k * 1024) with
              fld.pwmStart := s.fld.pwmStart + k * 1024
              fld.pwmDuty := s.rnd.duty })

/-! ### Moves of the relay -/

/-- The move out: CRDY going active in PREPARE enters TRANSFER_OUT, CRDY going inactive there is deferred, and the window
closes early, with success, or late: an early or late move fails, a success is EQUALISING or the way back for the deferred
cause (R144, R148, R149, R150, R156, R182). That an edge taken before the window's expiry is not late is log entry 4. -/
def Obligations.MoveOutIsJudged : Prop :=
  ∀ (s : State) (r : OpenRecord), s.rnd.record = some r → r.outcome = none →
    (∀ d, EdgeComes s .crdy d true → s.rnd.round = .prepare →
      ∃ t, exec (.stabilityTimerExpiry .crdy) s = .next t ∧ TransferOutEntered r (s.settled .crdy d true) t) ∧
    (s.rnd.round = .transferOut →
      (∀ d, EdgeComes s .crdy d false →
        exec (.stabilityTimerExpiry .crdy) s =
          .next { s.settled .crdy d false with rnd.deferred := s.rnd.deferred.or (some .chargerLost) }) ∧
      (∀ d c u, EdgeComes s .fb d true → s.rnd.transferFrom = some c →
        u = { s.settled .fb d true with rnd.transferFrom := none, rnd.deferred := none } →
        ∃ t, exec (.stabilityTimerExpiry .fb) s = .next t ∧
          (max s.now d < c + 15000 → MoveOutFailed r u t) ∧
          (c + 15000 ≤ max s.now d →
            (s.rnd.deferred = none →
              t =
                { u with
                  rnd.round := .equalising
                  rnd.elapsed := 0
                  rnd.bandTimer := 0
                  rnd.duty := 0
                  fld.pwmDuty := 0 }) ∧
            (s.rnd.deferred = some .stop → t = u.sentBack r .aborted (some .stop)) ∧
            (s.rnd.deferred = some .yield → t = u.sentBack r .yielded none) ∧
            (s.rnd.deferred = some .chargerLost → t = u.sentBack r .aborted (some .charger)))) ∧
      ∀ c, s.rnd.transferFrom = some c →
        ∃ t, exec .transferWindowExpiry s = .next t ∧
          MoveOutFailed r (s.reach (c + 250000)) t)

/-- The move back: the edge to float ends the round with its fixed outcome, early it makes the string STUCK; a recovery
check succeeds however soon; while the current is awaited the edge latches the inhibit and starts a check; a window or a
check that expires makes the string STUCK, and the wait's expiry commands float (R144, R145, R146, R150, R156, R157, R161,
R182). That an edge taken before the expiry of its window or check is in time is log entry 4. -/
def Obligations.MoveBackIsJudged : Prop :=
  ∀ (s : State) (r : OpenRecord) (o : RoundOutcome), s.rnd.record = some r → r.outcome = some o →
    s.rnd.round = .transferBack →
    (∀ d, EdgeComes s .fb d false → ∃ t, exec (.stabilityTimerExpiry .fb) s = .next t ∧
      (∀ c, s.rnd.transferFrom = some c →
        (max s.now d < c + 15000 → t = (s.settled .fb d false).stuckEntered) ∧
        (c + 15000 ≤ max s.now d →
          EqualiseEnded o r.cause r.openedAt { s.settled .fb d false with rnd.transferFrom := none } t)) ∧
      (s.rnd.transferFrom = none → ∀ c, s.rnd.recoveryCheck = some c →
        EqualiseEnded o r.cause r.openedAt
          { s.settled .fb d false with rnd.recoveryCheck := none, rnd.inhibit := s.rnd.inhibit || c.latches } t) ∧
      (s.rnd.transferFrom = none → s.rnd.recoveryCheck = none → s.rnd.currentWait.isSome = true →
        RecoveryStarted false o r.cause r.openedAt { s.settled .fb d false with rnd.inhibit := true } t)) ∧
    (∀ c, s.rnd.transferFrom = some c →
      exec .transferWindowExpiry s = .next (State.stuckEntered (s.reach (c + 250000)))) ∧
    (∀ c, s.rnd.recoveryCheck = some c →
      exec .recoveryCheckExpiry s = .next (State.stuckEntered (s.reach c.ends))) ∧
    ∀ w, s.rnd.currentWait = some w →
      ∃ t, exec .currentWaitExpiry s = .next t ∧ WindowStarted (s.reach w) t

/-- Uncommanded changes of FB, by round state: the inhibit latch is set; a working round goes back ABORTED with cause
POSITION and a recovery check, a string outside a round becomes INHIBITED, its pending claim withdrawn; an edge that the
table does not name changes nothing but the debounced level (R70, R129, R145, R146, R159, R160, R161, R182). -/
def Obligations.UncommandedEdges : Prop :=
  ∀ (s u : State) (d : Nat),
    (EdgeComes s .fb d false → u = s.settled .fb d false → ∃ t, exec (.stabilityTimerExpiry .fb) s = .next t ∧
      (s.rnd.round = .equalising ∨ s.rnd.round = .soak → ∀ r, s.rnd.record = some r → r.outcome = none →
        RecoveryStarted false .aborted (some .position) r.openedAt
          (State.backEntered { u with rnd.inhibit := true } r .aborted (some .position)) t) ∧
      (s.rnd.round ≠ .equalising → s.rnd.round ≠ .soak → s.rnd.round ≠ .transferBack → t = u)) ∧
    (EdgeComes s .fb d true → u = s.settled .fb d true → ∃ t, exec (.stabilityTimerExpiry .fb) s = .next t ∧
      (s.rnd.round = .prepare → ∀ r, s.rnd.record = some r → r.outcome = none →
        RecoveryStarted false .aborted (some .position) r.openedAt
          (State.backEntered { u with rnd.inhibit := true, rnd.chargerWait := none } r .aborted (some .position)) t) ∧
      (s.rnd.round = .float ∨ s.rnd.round = .due ∨ s.rnd.round = .rest ∨ s.rnd.round = .waterDue →
        t = State.statusAsked { u with rnd.inhibit := true, rnd.restPeriod := none, rnd.round := .inhibited }) ∧
      (∀ q : Resource, s.rnd.round = (match q with | .eq => .claiming | .water => .waterClaiming) →
        ((s.clm.machine q).state = .queued →
          t =
            State.statusAsked
              { u.unqueued q with rnd.inhibit := true, rnd.restPeriod := none, rnd.round := .inhibited }) ∧
        ((s.clm.machine q).state = .contending →
          t =
            State.statusAsked
              { u.withdrawn q with rnd.inhibit := true, rnd.restPeriod := none, rnd.round := .inhibited })) ∧
      (s.rnd.round = .watering ∨ s.rnd.round = .inhibited → t = { u with rnd.inhibit := true }) ∧
      (s.rnd.round = .equalising ∨ s.rnd.round = .soak ∨ s.rnd.round = .transferBack ∨ s.rnd.round = .stuck → t = u))

/-- The charger: the expiry of the charger wait ends the round ABORTED with cause CHARGER, CRDY going inactive sends a
working round back with that cause, and in every other state an edge of CRDY changes only the level (R148, R155, R157, R161,
R175, R182); an expiry of the round's timers that do not run changes nothing (log entry 3). -/
def Obligations.ChargerIsWatched : Prop :=
  ∀ (s : State),
    (∀ r d, s.rnd.chargerWait = some d → s.rnd.record = some r → r.outcome = none →
      ∃ t, exec .chargerWaitExpiry s = .next t ∧
        EqualiseEnded .aborted (some .charger) r.openedAt
          { s.reach d with rnd.chargerWait := none } t) ∧
    (∀ r d, EdgeComes s .crdy d false → s.rnd.round = .equalising ∨ s.rnd.round = .soak → s.rnd.record = some r →
      r.outcome = none →
      exec (.stabilityTimerExpiry .crdy) s =
        .next ((s.settled .crdy d false).sentBack r .aborted (some .charger))) ∧
    (∀ d, EdgeComes s .crdy d true → s.rnd.round ≠ .prepare →
      exec (.stabilityTimerExpiry .crdy) s = .next (s.settled .crdy d true)) ∧
    (∀ d, EdgeComes s .crdy d false → s.rnd.round ≠ .equalising → s.rnd.round ≠ .soak → s.rnd.round ≠ .transferOut →
      exec (.stabilityTimerExpiry .crdy) s = .next (s.settled .crdy d false)) ∧
    (s.rnd.chargerWait = none → exec .chargerWaitExpiry s = .next s) ∧
    (s.rnd.transferFrom = none → exec .transferWindowExpiry s = .next s) ∧
    (s.rnd.recoveryCheck = none → exec .recoveryCheckExpiry s = .next s) ∧
    (s.rnd.currentWait = none → exec .currentWaitExpiry s = .next s)

/-! ### The field inputs -/

/-- Conditioning of the level inputs: a change of an enabled input restarts its 20 ms, a disabled one and one before the
configuration read only takes the pin's level; a level that stood for 20 ms raises no edge when it is the debounced one; a
probe's edge changes its level alone, but for the splash guard's (R163, R180, R181, R182). A stability timer that does not
run expires without effect (log entry 3), and a disabled or unconditioned input takes the pin's level alone (log
entry 8). -/
def Obligations.LevelsAreConditioned : Prop :=
  ∀ (s : State) (i : LevelInput) (l : LevelLine), l = s.fld.line i →
    (∀ (after : Nat) (high enabled : Bool),
      (match i with
        | .fb => enabled = s.cfg.config.fbEnable
        | .crdy => enabled = s.cfg.config.crdyEnable
        | .prb g =>
            (g.val < s.cfg.config.groupCount → enabled = s.cfg.config.probeEnable.getLsbD g.val) ∧
              (s.cfg.config.groupCount ≤ g.val → enabled = false)) →
      (s.cfg.readEnded = true → enabled = true → l.pinHigh ≠ high →
        exec (.rawLevelChange after i high) s =
          .next
            { s.elapse after with
              fld := s.fld.withLine i { l with pinHigh := high, timer := some (s.now + after + 20000) } }) ∧
      (s.cfg.readEnded = false ∨ enabled = false ∨ l.pinHigh = high →
        exec (.rawLevelChange after i high) s =
          .next { s.elapse after with fld := s.fld.withLine i { l with pinHigh := high } })) ∧
    (l.timer = none → exec (.stabilityTimerExpiry i) s = .next s) ∧
    (∀ d, l.timer = some d → l.active = xor l.pinHigh (inputInverted s.cfg.config i) →
      exec (.stabilityTimerExpiry i) s =
        .next { s.reach d with fld := s.fld.withLine i { l with timer := none } }) ∧
    ∀ g d level, i = .prb g → EdgeComes s i d level → level = false ∨ s.wat.valve ≠ some g →
      exec (.stabilityTimerExpiry i) s = .next (s.settled i d level)

/-- The pulse state of FLOW: it follows the edges of the raw level of an enabled input after the configuration read, each
2 ms timer started or stopped as its table says, and REARMING becomes ARMED (R180, R183); a timer that does not run expires
without effect (log entry 3). -/
def Obligations.FlowIsConditioned : Prop :=
  ∀ (s : State),
    (∀ (after : Nat) (high raw : Bool) (flow : FlowState) (timer : Option Nat),
      raw = xor high s.cfg.config.flowInvert →
      (s.cfg.readEnded = false ∨ s.cfg.config.flowEnable = false ∨ s.fld.flowPinHigh = high →
        flow = s.fld.flow ∧ timer = s.fld.flowTimer) →
      (s.cfg.readEnded = true → s.cfg.config.flowEnable = true → s.fld.flowPinHigh ≠ high →
        (s.fld.flow = .armed → raw = true → flow = .qualifying ∧ timer = some (s.now + after + 2000)) ∧
        (s.fld.flow = .qualifying → raw = false → flow = .armed ∧ timer = none) ∧
        (s.fld.flow = .spent → raw = false → flow = .rearming ∧ timer = some (s.now + after + 2000)) ∧
        (s.fld.flow = .rearming → raw = true → flow = .spent ∧ timer = none) ∧
        ((s.fld.flow = .armed ∨ s.fld.flow = .rearming) ∧ raw = false ∨
            (s.fld.flow = .qualifying ∨ s.fld.flow = .spent) ∧ raw = true →
          flow = s.fld.flow ∧ timer = s.fld.flowTimer)) →
      exec (.flowEdge after high) s =
        .next
          { s.elapse after with fld.flowPinHigh := high, fld.flow := flow, fld.flowTimer := timer }) ∧
    (∀ d, s.fld.flowTimer = some d → s.fld.flow = .rearming →
      exec .flowTimerExpiry s =
        .next { s.reach d with fld.flow := .armed, fld.flowTimer := none }) ∧
    (s.fld.flowTimer = none → exec .flowTimerExpiry s = .next s)

/-! ### The watering round -/

/-- A flow pulse, at the expiry of the qualifying timer: in a dose pulse of the round it is counted to the head group; the
first one less than 200 ms after the opening ends the round CONFLICT, a later first one clears the no-flow count, and the
dosed volume closes the valve at its limit; after a round end it is counted to no group; outside a dose it ends the round of
a HELD claim CONFLICT, and sets the unexplained flow flag where no one holds the line (R110, R164, R170, R171, R172, R174,
R175, R176, R183). A first pulse taken before the flow window's expiry is in time (log entry 4), and one after an early
closing of the valve is judged like any other (log entry 26). A flow pulse that falls together with the end of a drain grace
that has opened the next pulse belongs to that pulse, by log entry 28. -/
def Obligations.FlowPulsesAreJudged : Prop :=
  ∀ (s u : State) (d : Nat), s.fld.flowTimer = some d → s.fld.flow = .qualifying →
    u = { s.reach d with fld.flow := .spent, fld.flowTimer := none } →
    ∃ t, exec .flowTimerExpiry s = .next t ∧
      (s.wat.valve.isSome = true ∨ s.wat.drainGrace.isSome = true →
        (s.rnd.round ≠ .watering → t = u) ∧
        (s.rnd.round = .watering → (s.wat.closedPeriod = true → s.wat.valve = none) →
          ∀ (r : OpenRecord) (g : Fin 8) (rest : List (Fin 8)) (v w : State) (early reached : Prop),
            s.rnd.record = some r → r.outcome = none → s.wat.plan = g :: rest →
            v = u.withGroup g { s.group g with dosed := min 65535 ((s.group g).dosed + s.cfg.config.vFlow) } →
            w =
              { v with
                wat.flowWindow := none
                wat.noFlow := if s.wat.flowWindow.isSome then 0 else s.wat.noFlow } →
            (early ↔ s.wat.flowWindow.isSome = true ∧ ∃ l, s.wat.earlyLimit = some l ∧ u.now < l) →
            (reached ↔
              (v.group g).cap ≤ (v.group g).dosed * 1000 ∨
                (ProbeDisabled s g ∧ (v.group g).target ≤ (v.group g).dosed * 1000)) →
            (early → WateringEnded .conflict none r.openedAt { v with rnd.inhibit := true } t) ∧
            (¬ early → s.wat.valve.isSome = true → reached → t = w.pulseClosed) ∧
            (¬ early → s.wat.valve = none ∨ ¬ reached → t = w))) ∧
      (s.wat.valve = none → s.wat.drainGrace = none →
        (s.clm.water.state = .held → s.rnd.round = .watering → ∀ r, s.rnd.record = some r → r.outcome = none →
          WateringEnded .conflict none r.openedAt { u with rnd.inhibit := true } t) ∧
        (s.clm.water.state = .none → s.cfg.mode ≠ .starting → (∀ p ∈ s.ptb, p.waterClaim = none) →
          t = { u with wat.unexplained := true }) ∧
        (s.clm.water.state = .none → s.cfg.mode = .starting ∨ ¬ (∀ p ∈ s.ptb, p.waterClaim = none) → t = u) ∧
        (s.clm.water.state ≠ .none → s.clm.water.state ≠ .held → t = u))

/-- The open period's end and the splash guard close the valve of the pulse; the drain grace's and the off time's end test
the closed period, which ends when both and the flow window are over, and then the head group is FULL, CAPPED, DOSED or
pulsed again (R168, R169, R170, R171, R172, R173); an expiry without its timer changes nothing (log entry 3). -/
def Obligations.DosePulsesRun : Prop :=
  ∀ (s : State),
    (∀ d, s.wat.openPeriod = some d →
      exec .openPeriodExpiry s = .next (State.pulseClosed (s.reach d))) ∧
    (s.wat.openPeriod = none → exec .openPeriodExpiry s = .next s) ∧
    (∀ g d, EdgeComes s (.prb g) d true → s.wat.valve = some g →
      exec (.stabilityTimerExpiry (.prb g)) s =
        .next
          (State.pulseClosed { s.settled (.prb g) d true with wat.closedEarly := s.wat.flowWindow.isSome })) ∧
    (∀ d r, s.wat.drainGrace = some d → s.rnd.record = some r → r.outcome = none →
      ∃ t, exec .drainGraceExpiry s = .next t ∧
        ClosedPeriodTested r.openedAt { s.reach d with wat.drainGrace := none } t) ∧
    (∀ d, s.wat.drainGrace = some d → s.wat.closedPeriod = false →
      exec .drainGraceExpiry s = .next { s.reach d with wat.drainGrace := none }) ∧
    (s.wat.drainGrace = none → exec .drainGraceExpiry s = .next s) ∧
    (∀ d r, s.wat.offTime = some d → s.rnd.record = some r → r.outcome = none →
      ∃ t, exec .offTimeExpiry s = .next t ∧
        ClosedPeriodTested r.openedAt { s.reach d with wat.offTime := none } t) ∧
    (s.wat.offTime = none → exec .offTimeExpiry s = .next s)

/-- The flow window's expiry: after an early closing a short pulse, otherwise a no-flow pulse, the second of which ends the
round DRY with its latch and 24 h timer; the round limit's expiry ends it TIMED_OUT (R169, R171, R175, R176, R178); an expiry
without its timer changes nothing (log entry 3). -/
def Obligations.DryAndLimitEndRounds : Prop :=
  ∀ (s : State),
    (∀ d r u, s.wat.flowWindow = some d → s.rnd.record = some r → r.outcome = none →
      u = { s.reach d with wat.flowWindow := none } →
      ∃ t, exec .flowWindowExpiry s = .next t ∧
        (s.wat.closedEarly = true → ClosedPeriodTested r.openedAt u t) ∧
        (s.wat.closedEarly = false → s.wat.noFlow = 0 →
          ClosedPeriodTested r.openedAt { u with wat.noFlow := 1 } t) ∧
        (s.wat.closedEarly = false → 1 ≤ s.wat.noFlow →
          WateringEnded .dry none r.openedAt
            { u with
              wat.noFlow := s.wat.noFlow + 1
              wat.dry := true
              wat.dryTimer := some (u.now + 86400000000) } t)) ∧
    (s.wat.flowWindow = none → exec .flowWindowExpiry s = .next s) ∧
    (∀ d r, s.wat.roundLimit = some d → s.rnd.record = some r → r.outcome = none →
      ∃ t, exec .roundLimitExpiry s = .next t ∧
        WateringEnded .timedOut none r.openedAt (s.reach d) t) ∧
    (s.wat.roundLimit = none → exec .roundLimitExpiry s = .next s)

end Statements
end

