-- ==== Sys2Proof/Laws/State.lean ====
section
/-! SUPPORT. One lemma per field and named update of the state, each true by unfolding that update alone. -/

namespace Sys2Proof.Machine

/-! ### The time base -/

@[simp] theorem State.elapse_now (s : State) (after : Nat) : (s.elapse after).now = s.now + after := rfl

@[simp] theorem State.elapse_nextSecond (s : State) (after : Nat) : (s.elapse after).nextSecond = s.nextSecond := rfl

@[simp] theorem State.elapse_nextHour (s : State) (after : Nat) : (s.elapse after).nextHour = s.nextHour := rfl

@[simp] theorem State.elapse_resets (s : State) (after : Nat) : (s.elapse after).resets = s.resets := rfl

@[simp] theorem State.elapse_cfg (s : State) (after : Nat) : (s.elapse after).cfg = s.cfg := rfl

@[simp] theorem State.elapse_scn (s : State) (after : Nat) :
    (s.elapse after).scn = { s.scn with buffer := s.wordsStored (s.elapse after).now } := rfl

@[simp] theorem State.elapse_acc (s : State) (after : Nat) : (s.elapse after).acc = s.acc := rfl

@[simp] theorem State.elapse_mon (s : State) (after : Nat) : (s.elapse after).mon = s.mon := rfl

@[simp] theorem State.elapse_lin (s : State) (after : Nat) : (s.elapse after).lin = s.lin := rfl

@[simp] theorem State.elapse_ptb (s : State) (after : Nat) : (s.elapse after).ptb = s.ptb := rfl

@[simp] theorem State.elapse_clm (s : State) (after : Nat) : (s.elapse after).clm = s.clm := rfl

@[simp] theorem State.elapse_rnd (s : State) (after : Nat) : (s.elapse after).rnd = s.rnd := rfl

@[simp] theorem State.elapse_wat (s : State) (after : Nat) : (s.elapse after).wat = s.wat := rfl

@[simp] theorem State.elapse_fld (s : State) (after : Nat) : (s.elapse after).fld = s.fld := rfl

@[simp] theorem State.elapse_pending (s : State) (after : Nat) : (s.elapse after).pending = s.pending := rfl

@[simp] theorem State.reach_now (s : State) (d : Nat) : (s.reach d).now = max s.now d := rfl

@[simp] theorem State.reach_nextSecond (s : State) (d : Nat) : (s.reach d).nextSecond = s.nextSecond := rfl

@[simp] theorem State.reach_nextHour (s : State) (d : Nat) : (s.reach d).nextHour = s.nextHour := rfl

@[simp] theorem State.reach_resets (s : State) (d : Nat) : (s.reach d).resets = s.resets := rfl

@[simp] theorem State.reach_cfg (s : State) (d : Nat) : (s.reach d).cfg = s.cfg := rfl

@[simp] theorem State.reach_scn (s : State) (d : Nat) :
    (s.reach d).scn = { s.scn with buffer := s.wordsStored (s.reach d).now } := rfl

@[simp] theorem State.reach_acc (s : State) (d : Nat) : (s.reach d).acc = s.acc := rfl

@[simp] theorem State.reach_mon (s : State) (d : Nat) : (s.reach d).mon = s.mon := rfl

@[simp] theorem State.reach_lin (s : State) (d : Nat) : (s.reach d).lin = s.lin := rfl

@[simp] theorem State.reach_ptb (s : State) (d : Nat) : (s.reach d).ptb = s.ptb := rfl

@[simp] theorem State.reach_clm (s : State) (d : Nat) : (s.reach d).clm = s.clm := rfl

@[simp] theorem State.reach_rnd (s : State) (d : Nat) : (s.reach d).rnd = s.rnd := rfl

@[simp] theorem State.reach_wat (s : State) (d : Nat) : (s.reach d).wat = s.wat := rfl

@[simp] theorem State.reach_fld (s : State) (d : Nat) : (s.reach d).fld = s.fld := rfl

@[simp] theorem State.reach_pending (s : State) (d : Nat) : (s.reach d).pending = s.pending := rfl

/-! ### The claim machines and the back-off timers -/

@[simp] theorem Clm.withMachine_eqBackOff (c : Clm) (r : Resource) (m : ClaimMachine) :
    (c.withMachine r m).eqBackOff = c.eqBackOff := by cases r <;> rfl

@[simp] theorem Clm.withMachine_waterBackOff (c : Clm) (r : Resource) (m : ClaimMachine) :
    (c.withMachine r m).waterBackOff = c.waterBackOff := by cases r <;> rfl

@[simp] theorem Clm.withMachine_reportQueued (c : Clm) (r : Resource) (m : ClaimMachine) :
    (c.withMachine r m).reportQueued = c.reportQueued := by cases r <;> rfl

@[simp] theorem Clm.withMachine_statusQueued (c : Clm) (r : Resource) (m : ClaimMachine) :
    (c.withMachine r m).statusQueued = c.statusQueued := by cases r <;> rfl

@[simp] theorem Clm.withMachine_nextTag (c : Clm) (r : Resource) (m : ClaimMachine) :
    (c.withMachine r m).nextTag = c.nextTag := by cases r <;> rfl

@[simp] theorem Clm.withMachine_statusTimer (c : Clm) (r : Resource) (m : ClaimMachine) :
    (c.withMachine r m).statusTimer = c.statusTimer := by cases r <;> rfl

@[simp] theorem Clm.withMachine_history (c : Clm) (r : Resource) (m : ClaimMachine) :
    (c.withMachine r m).history = c.history := by cases r <;> rfl

@[simp] theorem Clm.withMachine_lowRun (c : Clm) (r : Resource) (m : ClaimMachine) :
    (c.withMachine r m).lowRun = c.lowRun := by cases r <;> rfl

@[simp] theorem Clm.withMachine_eq_eq (c : Clm) (m : ClaimMachine) : (c.withMachine .eq m).eq = m := rfl

@[simp] theorem Clm.withMachine_eq_water (c : Clm) (m : ClaimMachine) : (c.withMachine .eq m).water = c.water := rfl

@[simp] theorem Clm.withMachine_water_eq (c : Clm) (m : ClaimMachine) : (c.withMachine .water m).eq = c.eq := rfl

@[simp] theorem Clm.withMachine_water_water (c : Clm) (m : ClaimMachine) : (c.withMachine .water m).water = m := rfl

@[simp] theorem Clm.machine_withMachine (c : Clm) (r : Resource) (m : ClaimMachine) :
    (c.withMachine r m).machine r = m := by cases r <;> rfl

@[simp] theorem Clm.withBackOff_eq (c : Clm) (r : Resource) (d : Option Nat) :
    (c.withBackOff r d).eq = c.eq := by cases r <;> rfl

@[simp] theorem Clm.withBackOff_water (c : Clm) (r : Resource) (d : Option Nat) :
    (c.withBackOff r d).water = c.water := by cases r <;> rfl

@[simp] theorem Clm.withBackOff_reportQueued (c : Clm) (r : Resource) (d : Option Nat) :
    (c.withBackOff r d).reportQueued = c.reportQueued := by cases r <;> rfl

@[simp] theorem Clm.withBackOff_statusQueued (c : Clm) (r : Resource) (d : Option Nat) :
    (c.withBackOff r d).statusQueued = c.statusQueued := by cases r <;> rfl

@[simp] theorem Clm.withBackOff_nextTag (c : Clm) (r : Resource) (d : Option Nat) :
    (c.withBackOff r d).nextTag = c.nextTag := by cases r <;> rfl

@[simp] theorem Clm.withBackOff_statusTimer (c : Clm) (r : Resource) (d : Option Nat) :
    (c.withBackOff r d).statusTimer = c.statusTimer := by cases r <;> rfl

@[simp] theorem Clm.withBackOff_history (c : Clm) (r : Resource) (d : Option Nat) :
    (c.withBackOff r d).history = c.history := by cases r <;> rfl

@[simp] theorem Clm.withBackOff_lowRun (c : Clm) (r : Resource) (d : Option Nat) :
    (c.withBackOff r d).lowRun = c.lowRun := by cases r <;> rfl

@[simp] theorem Clm.backOff_withBackOff (c : Clm) (r : Resource) (d : Option Nat) :
    (c.withBackOff r d).backOff r = d := by cases r <;> rfl

@[simp] theorem Clm.machine_withBackOff (c : Clm) (r r' : Resource) (d : Option Nat) :
    (c.withBackOff r d).machine r' = c.machine r' := by cases r <;> cases r' <;> rfl

@[simp] theorem Clm.backOff_withMachine (c : Clm) (r r' : Resource) (m : ClaimMachine) :
    (c.withMachine r m).backOff r' = c.backOff r' := by cases r <;> cases r' <;> rfl

@[simp] theorem State.withMachine_now (s : State) (r : Resource) (m : ClaimMachine) :
    (s.withMachine r m).now = s.now := rfl

@[simp] theorem State.withMachine_nextSecond (s : State) (r : Resource) (m : ClaimMachine) :
    (s.withMachine r m).nextSecond = s.nextSecond := rfl

@[simp] theorem State.withMachine_nextHour (s : State) (r : Resource) (m : ClaimMachine) :
    (s.withMachine r m).nextHour = s.nextHour := rfl

@[simp] theorem State.withMachine_resets (s : State) (r : Resource) (m : ClaimMachine) :
    (s.withMachine r m).resets = s.resets := rfl

@[simp] theorem State.withMachine_cfg (s : State) (r : Resource) (m : ClaimMachine) :
    (s.withMachine r m).cfg = s.cfg := rfl

@[simp] theorem State.withMachine_scn (s : State) (r : Resource) (m : ClaimMachine) :
    (s.withMachine r m).scn = s.scn := rfl

@[simp] theorem State.withMachine_acc (s : State) (r : Resource) (m : ClaimMachine) :
    (s.withMachine r m).acc = s.acc := rfl

@[simp] theorem State.withMachine_mon (s : State) (r : Resource) (m : ClaimMachine) :
    (s.withMachine r m).mon = s.mon := rfl

@[simp] theorem State.withMachine_lin (s : State) (r : Resource) (m : ClaimMachine) :
    (s.withMachine r m).lin = s.lin := rfl

@[simp] theorem State.withMachine_ptb (s : State) (r : Resource) (m : ClaimMachine) :
    (s.withMachine r m).ptb = s.ptb := rfl

@[simp] theorem State.withMachine_clm (s : State) (r : Resource) (m : ClaimMachine) :
    (s.withMachine r m).clm = s.clm.withMachine r m := rfl

@[simp] theorem State.withMachine_rnd (s : State) (r : Resource) (m : ClaimMachine) :
    (s.withMachine r m).rnd = s.rnd := rfl

@[simp] theorem State.withMachine_wat (s : State) (r : Resource) (m : ClaimMachine) :
    (s.withMachine r m).wat = s.wat := rfl

@[simp] theorem State.withMachine_fld (s : State) (r : Resource) (m : ClaimMachine) :
    (s.withMachine r m).fld = s.fld := rfl

@[simp] theorem State.withMachine_pending (s : State) (r : Resource) (m : ClaimMachine) :
    (s.withMachine r m).pending = s.pending := rfl

@[simp] theorem startBackOff_now (r : Resource) (s : State) : (startBackOff r s).now = s.now := rfl

@[simp] theorem startBackOff_nextSecond (r : Resource) (s : State) :
    (startBackOff r s).nextSecond = s.nextSecond := rfl

@[simp] theorem startBackOff_nextHour (r : Resource) (s : State) : (startBackOff r s).nextHour = s.nextHour := rfl

@[simp] theorem startBackOff_resets (r : Resource) (s : State) : (startBackOff r s).resets = s.resets := rfl

@[simp] theorem startBackOff_cfg (r : Resource) (s : State) : (startBackOff r s).cfg = s.cfg := rfl

@[simp] theorem startBackOff_scn (r : Resource) (s : State) : (startBackOff r s).scn = s.scn := rfl

@[simp] theorem startBackOff_acc (r : Resource) (s : State) : (startBackOff r s).acc = s.acc := rfl

@[simp] theorem startBackOff_mon (r : Resource) (s : State) : (startBackOff r s).mon = s.mon := rfl

@[simp] theorem startBackOff_lin (r : Resource) (s : State) : (startBackOff r s).lin = s.lin := rfl

@[simp] theorem startBackOff_ptb (r : Resource) (s : State) : (startBackOff r s).ptb = s.ptb := rfl

@[simp] theorem startBackOff_clm (r : Resource) (s : State) :
    (startBackOff r s).clm = s.clm.withBackOff r (some (s.now + s.backOffUs)) := rfl

@[simp] theorem startBackOff_rnd (r : Resource) (s : State) : (startBackOff r s).rnd = s.rnd := rfl

@[simp] theorem startBackOff_wat (r : Resource) (s : State) : (startBackOff r s).wat = s.wat := rfl

@[simp] theorem startBackOff_fld (r : Resource) (s : State) : (startBackOff r s).fld = s.fld := rfl

@[simp] theorem startBackOff_pending (r : Resource) (s : State) : (startBackOff r s).pending = s.pending := rfl

/-! ### Requests to the outgoing queue -/

@[simp] theorem requestStatus_now (s : State) :
    (requestStatus s).now = s.now := by unfold requestStatus; split <;> rfl

@[simp] theorem requestStatus_nextSecond (s : State) :
    (requestStatus s).nextSecond = s.nextSecond := by unfold requestStatus; split <;> rfl

@[simp] theorem requestStatus_nextHour (s : State) :
    (requestStatus s).nextHour = s.nextHour := by unfold requestStatus; split <;> rfl

@[simp] theorem requestStatus_resets (s : State) :
    (requestStatus s).resets = s.resets := by unfold requestStatus; split <;> rfl

@[simp] theorem requestStatus_cfg (s : State) :
    (requestStatus s).cfg = s.cfg := by unfold requestStatus; split <;> rfl

@[simp] theorem requestStatus_scn (s : State) :
    (requestStatus s).scn = s.scn := by unfold requestStatus; split <;> rfl

@[simp] theorem requestStatus_acc (s : State) :
    (requestStatus s).acc = s.acc := by unfold requestStatus; split <;> rfl

@[simp] theorem requestStatus_mon (s : State) :
    (requestStatus s).mon = s.mon := by unfold requestStatus; split <;> rfl

@[simp] theorem requestStatus_lin (s : State) :
    (requestStatus s).lin = s.lin := by unfold requestStatus; split <;> rfl

@[simp] theorem requestStatus_ptb (s : State) :
    (requestStatus s).ptb = s.ptb := by unfold requestStatus; split <;> rfl

@[simp] theorem requestStatus_clm (s : State) :
    (requestStatus s).clm = { s.clm with statusQueued := s.clm.statusQueued || queueOpen s.cfg.mode } := by
  unfold requestStatus; split <;> simp_all

@[simp] theorem requestStatus_rnd (s : State) :
    (requestStatus s).rnd = s.rnd := by unfold requestStatus; split <;> rfl

@[simp] theorem requestStatus_wat (s : State) :
    (requestStatus s).wat = s.wat := by unfold requestStatus; split <;> rfl

@[simp] theorem requestStatus_fld (s : State) :
    (requestStatus s).fld = s.fld := by unfold requestStatus; split <;> rfl

@[simp] theorem requestStatus_pending (s : State) :
    (requestStatus s).pending = s.pending := by unfold requestStatus; split <;> rfl

@[simp] theorem requestReport_now (s : State) :
    (requestReport s).now = s.now := by unfold requestReport; split <;> rfl

@[simp] theorem requestReport_nextSecond (s : State) :
    (requestReport s).nextSecond = s.nextSecond := by unfold requestReport; split <;> rfl

@[simp] theorem requestReport_nextHour (s : State) :
    (requestReport s).nextHour = s.nextHour := by unfold requestReport; split <;> rfl

@[simp] theorem requestReport_resets (s : State) :
    (requestReport s).resets = s.resets := by unfold requestReport; split <;> rfl

@[simp] theorem requestReport_cfg (s : State) :
    (requestReport s).cfg = s.cfg := by unfold requestReport; split <;> rfl

@[simp] theorem requestReport_scn (s : State) :
    (requestReport s).scn = s.scn := by unfold requestReport; split <;> rfl

@[simp] theorem requestReport_acc (s : State) :
    (requestReport s).acc = s.acc := by unfold requestReport; split <;> rfl

@[simp] theorem requestReport_mon (s : State) :
    (requestReport s).mon = s.mon := by unfold requestReport; split <;> rfl

@[simp] theorem requestReport_lin (s : State) :
    (requestReport s).lin = s.lin := by unfold requestReport; split <;> rfl

@[simp] theorem requestReport_ptb (s : State) :
    (requestReport s).ptb = s.ptb := by unfold requestReport; split <;> rfl

@[simp] theorem requestReport_clm (s : State) :
    (requestReport s).clm = { s.clm with reportQueued := s.clm.reportQueued || queueOpen s.cfg.mode } := by
  unfold requestReport; split <;> simp_all

@[simp] theorem requestReport_rnd (s : State) :
    (requestReport s).rnd = s.rnd := by unfold requestReport; split <;> rfl

@[simp] theorem requestReport_wat (s : State) :
    (requestReport s).wat = s.wat := by unfold requestReport; split <;> rfl

@[simp] theorem requestReport_fld (s : State) :
    (requestReport s).fld = s.fld := by unfold requestReport; split <;> rfl

@[simp] theorem requestReport_pending (s : State) :
    (requestReport s).pending = s.pending := by unfold requestReport; split <;> rfl

/-! ### The limiter duty -/

@[simp] theorem setDuty_now (s : State) (d : Nat) : (setDuty s d).now = s.now := rfl

@[simp] theorem setDuty_nextSecond (s : State) (d : Nat) : (setDuty s d).nextSecond = s.nextSecond := rfl

@[simp] theorem setDuty_nextHour (s : State) (d : Nat) : (setDuty s d).nextHour = s.nextHour := rfl

@[simp] theorem setDuty_resets (s : State) (d : Nat) : (setDuty s d).resets = s.resets := rfl

@[simp] theorem setDuty_cfg (s : State) (d : Nat) : (setDuty s d).cfg = s.cfg := rfl

@[simp] theorem setDuty_scn (s : State) (d : Nat) : (setDuty s d).scn = s.scn := rfl

@[simp] theorem setDuty_acc (s : State) (d : Nat) : (setDuty s d).acc = s.acc := rfl

@[simp] theorem setDuty_mon (s : State) (d : Nat) : (setDuty s d).mon = s.mon := rfl

@[simp] theorem setDuty_lin (s : State) (d : Nat) : (setDuty s d).lin = s.lin := rfl

@[simp] theorem setDuty_ptb (s : State) (d : Nat) : (setDuty s d).ptb = s.ptb := rfl

@[simp] theorem setDuty_clm (s : State) (d : Nat) : (setDuty s d).clm = s.clm := rfl

@[simp] theorem setDuty_rnd (s : State) (d : Nat) : (setDuty s d).rnd = { s.rnd with duty := d } := rfl

@[simp] theorem setDuty_wat (s : State) (d : Nat) : (setDuty s d).wat = s.wat := rfl

@[simp] theorem setDuty_fld (s : State) (d : Nat) :
    (setDuty s d).fld = { s.fld with pwmDuty := if d = 0 then 0 else s.fld.pwmDuty } := rfl

@[simp] theorem setDuty_pending (s : State) (d : Nat) : (setDuty s d).pending = s.pending := rfl

/-! ### Group records -/

@[simp] theorem State.withGroup_now (s : State) (g : Fin 8) (r : GroupRecord) : (s.withGroup g r).now = s.now := rfl

@[simp] theorem State.withGroup_nextSecond (s : State) (g : Fin 8) (r : GroupRecord) :
    (s.withGroup g r).nextSecond = s.nextSecond := rfl

@[simp] theorem State.withGroup_nextHour (s : State) (g : Fin 8) (r : GroupRecord) :
    (s.withGroup g r).nextHour = s.nextHour := rfl

@[simp] theorem State.withGroup_resets (s : State) (g : Fin 8) (r : GroupRecord) :
    (s.withGroup g r).resets = s.resets := rfl

@[simp] theorem State.withGroup_cfg (s : State) (g : Fin 8) (r : GroupRecord) : (s.withGroup g r).cfg = s.cfg := rfl

@[simp] theorem State.withGroup_scn (s : State) (g : Fin 8) (r : GroupRecord) : (s.withGroup g r).scn = s.scn := rfl

@[simp] theorem State.withGroup_acc (s : State) (g : Fin 8) (r : GroupRecord) : (s.withGroup g r).acc = s.acc := rfl

@[simp] theorem State.withGroup_mon (s : State) (g : Fin 8) (r : GroupRecord) : (s.withGroup g r).mon = s.mon := rfl

@[simp] theorem State.withGroup_lin (s : State) (g : Fin 8) (r : GroupRecord) : (s.withGroup g r).lin = s.lin := rfl

@[simp] theorem State.withGroup_ptb (s : State) (g : Fin 8) (r : GroupRecord) : (s.withGroup g r).ptb = s.ptb := rfl

@[simp] theorem State.withGroup_clm (s : State) (g : Fin 8) (r : GroupRecord) : (s.withGroup g r).clm = s.clm := rfl

@[simp] theorem State.withGroup_rnd (s : State) (g : Fin 8) (r : GroupRecord) : (s.withGroup g r).rnd = s.rnd := rfl

@[simp] theorem State.withGroup_wat (s : State) (g : Fin 8) (r : GroupRecord) :
    (s.withGroup g r).wat = { s.wat with groups := s.wat.groups.set g.val r } := rfl

@[simp] theorem State.withGroup_fld (s : State) (g : Fin 8) (r : GroupRecord) : (s.withGroup g r).fld = s.fld := rfl

@[simp] theorem State.withGroup_pending (s : State) (g : Fin 8) (r : GroupRecord) :
    (s.withGroup g r).pending = s.pending := rfl

theorem State.group_withGroup (s : State) (g : Fin 8) (r : GroupRecord) (h : s.wat.groups.length = 8) :
    (s.withGroup g r).group g = r := by
  simp [State.group, State.withGroup, List.getD_eq_getElem?_getD, h]

theorem State.group_withGroup_ne (s : State) (g g' : Fin 8) (r : GroupRecord) (h : g' ≠ g) :
    (s.withGroup g r).group g' = s.group g' := by
  have hv : g.val ≠ g'.val := fun q => h (Fin.ext q.symm)
  simp [State.group, State.withGroup, List.getD_eq_getElem?_getD, hv]

/-! ### Level inputs -/

@[simp] theorem Fld.withLine_flowPinHigh (f : Fld) (i : LevelInput) (l : LevelLine) :
    (f.withLine i l).flowPinHigh = f.flowPinHigh := by cases i <;> rfl

@[simp] theorem Fld.withLine_flow (f : Fld) (i : LevelInput) (l : LevelLine) :
    (f.withLine i l).flow = f.flow := by cases i <;> rfl

@[simp] theorem Fld.withLine_flowTimer (f : Fld) (i : LevelInput) (l : LevelLine) :
    (f.withLine i l).flowTimer = f.flowTimer := by cases i <;> rfl

@[simp] theorem Fld.withLine_pwmStart (f : Fld) (i : LevelInput) (l : LevelLine) :
    (f.withLine i l).pwmStart = f.pwmStart := by cases i <;> rfl

@[simp] theorem Fld.withLine_pwmDuty (f : Fld) (i : LevelInput) (l : LevelLine) :
    (f.withLine i l).pwmDuty = f.pwmDuty := by cases i <;> rfl

theorem Fld.line_withLine (f : Fld) (i : LevelInput) (l : LevelLine) (h : f.probes.length = 8) :
    (f.withLine i l).line i = l := by
  cases i <;> simp [Fld.line, Fld.withLine, List.getD_eq_getElem?_getD, h]

theorem Fld.line_withLine_ne (f : Fld) (i i' : LevelInput) (l : LevelLine) (h : i' ≠ i) :
    (f.withLine i l).line i' = f.line i' := by
  cases i <;> cases i' <;> first | rfl | exact absurd rfl h | skip
  next g g' =>
    have hv : g.val ≠ g'.val := fun q => h (congrArg LevelInput.prb (Fin.ext q.symm))
    simp [Fld.line, Fld.withLine, List.getD_eq_getElem?_getD, hv]

/-! ### The line -/

@[simp] theorem frameEnds_now (s : State) : (frameEnds s).now = s.now := rfl

@[simp] theorem frameEnds_nextSecond (s : State) : (frameEnds s).nextSecond = s.nextSecond := rfl

@[simp] theorem frameEnds_nextHour (s : State) : (frameEnds s).nextHour = s.nextHour := rfl

@[simp] theorem frameEnds_resets (s : State) : (frameEnds s).resets = s.resets := rfl

@[simp] theorem frameEnds_cfg (s : State) : (frameEnds s).cfg = s.cfg := rfl

@[simp] theorem frameEnds_scn (s : State) : (frameEnds s).scn = s.scn := rfl

@[simp] theorem frameEnds_acc (s : State) : (frameEnds s).acc = s.acc := rfl

@[simp] theorem frameEnds_mon (s : State) : (frameEnds s).mon = s.mon := rfl

@[simp] theorem frameEnds_lin (s : State) : (frameEnds s).lin = { s.lin with assembler := .hunt, idle := .counting s.now } := rfl

@[simp] theorem frameEnds_ptb (s : State) : (frameEnds s).ptb = s.ptb := rfl

@[simp] theorem frameEnds_clm (s : State) : (frameEnds s).clm = s.clm := rfl

@[simp] theorem frameEnds_rnd (s : State) : (frameEnds s).rnd = s.rnd := rfl

@[simp] theorem frameEnds_wat (s : State) : (frameEnds s).wat = s.wat := rfl

@[simp] theorem frameEnds_fld (s : State) : (frameEnds s).fld = s.fld := rfl

@[simp] theorem frameEnds_pending (s : State) : (frameEnds s).pending = s.pending := rfl

@[simp] theorem endAttempt_now (s : State) : (endAttempt s).now = s.now := rfl

@[simp] theorem endAttempt_nextSecond (s : State) : (endAttempt s).nextSecond = s.nextSecond := rfl

@[simp] theorem endAttempt_nextHour (s : State) : (endAttempt s).nextHour = s.nextHour := rfl

@[simp] theorem endAttempt_resets (s : State) : (endAttempt s).resets = s.resets := rfl

@[simp] theorem endAttempt_cfg (s : State) : (endAttempt s).cfg = s.cfg := rfl

@[simp] theorem endAttempt_scn (s : State) : (endAttempt s).scn = s.scn := rfl

@[simp] theorem endAttempt_acc (s : State) : (endAttempt s).acc = s.acc := rfl

@[simp] theorem endAttempt_mon (s : State) : (endAttempt s).mon = s.mon := rfl

@[simp] theorem endAttempt_lin (s : State) :
    (endAttempt s).lin = { s.lin with attempt := none, idle := .counting s.now } := rfl

@[simp] theorem endAttempt_ptb (s : State) : (endAttempt s).ptb = s.ptb := rfl

@[simp] theorem endAttempt_clm (s : State) : (endAttempt s).clm = s.clm := rfl

@[simp] theorem endAttempt_rnd (s : State) : (endAttempt s).rnd = s.rnd := rfl

@[simp] theorem endAttempt_wat (s : State) : (endAttempt s).wat = s.wat := rfl

@[simp] theorem endAttempt_fld (s : State) : (endAttempt s).fld = s.fld := rfl

@[simp] theorem endAttempt_pending (s : State) : (endAttempt s).pending = s.pending := rfl

@[simp] theorem failAttempt_now (a : Attempt) (s : State) : (failAttempt a s).now = s.now := rfl

@[simp] theorem failAttempt_nextSecond (a : Attempt) (s : State) : (failAttempt a s).nextSecond = s.nextSecond := rfl

@[simp] theorem failAttempt_nextHour (a : Attempt) (s : State) : (failAttempt a s).nextHour = s.nextHour := rfl

@[simp] theorem failAttempt_resets (a : Attempt) (s : State) : (failAttempt a s).resets = s.resets := rfl

@[simp] theorem failAttempt_cfg (a : Attempt) (s : State) : (failAttempt a s).cfg = s.cfg := rfl

@[simp] theorem failAttempt_scn (a : Attempt) (s : State) : (failAttempt a s).scn = s.scn := rfl

@[simp] theorem failAttempt_acc (a : Attempt) (s : State) : (failAttempt a s).acc = s.acc := rfl

@[simp] theorem failAttempt_mon (a : Attempt) (s : State) : (failAttempt a s).mon = s.mon := rfl

@[simp] theorem failAttempt_lin (a : Attempt) (s : State) :
    (failAttempt a s).lin =
      { s.lin with
        attempt := none
        idle := .counting s.now
        assembler := if a.bitIndex s.now = 0 then s.lin.assembler.withoutStartBit else s.lin.assembler } := rfl

@[simp] theorem failAttempt_ptb (a : Attempt) (s : State) : (failAttempt a s).ptb = s.ptb := rfl

@[simp] theorem failAttempt_clm (a : Attempt) (s : State) : (failAttempt a s).clm = s.clm := rfl

@[simp] theorem failAttempt_rnd (a : Attempt) (s : State) : (failAttempt a s).rnd = s.rnd := rfl

@[simp] theorem failAttempt_wat (a : Attempt) (s : State) : (failAttempt a s).wat = s.wat := rfl

@[simp] theorem failAttempt_fld (a : Attempt) (s : State) : (failAttempt a s).fld = s.fld := rfl

@[simp] theorem failAttempt_pending (a : Attempt) (s : State) : (failAttempt a s).pending = s.pending := rfl

end Sys2Proof.Machine
end

