-- ==== Sys2Proof/Laws/Claims.lean ====
section
/-! SUPPORT. What the shared operations of CLM and PTB do, said once: requests, figures, withdrawal, conflict and rank,
the peer table. -/

namespace Sys2Proof.Machine

variable {s t u : State}

/-! ### The queue and the figures -/

theorem requestStatus_eq (v : State) : requestStatus v =
    { v with clm.statusQueued := v.clm.statusQueued || queueOpen v.cfg.mode } := by
  unfold requestStatus; split <;> simp_all

theorem requestStatus_statusAsked (v : State) : requestStatus v = v.statusAsked := requestStatus_eq v

theorem availableUnclaimed_eq (P) (l : List PeerRecord) : availableUnclaimed P l =
    l.countP (fun p => p.age ≤ 3 * P ∧ p.available = true ∧ p.discharging =
    false ∧ p.mode ≠ .unreported ∧ p.eqClaim = none) := by
  unfold availableUnclaimed
  apply List.countP_congr
  intro p _
  unfold PeerRecord.inReserve PeerRecord.isFresh
  simp [and_assoc, Option.isNone_iff_eq_none]

theorem committedShare_eq (l : List PeerRecord) : committedShare l =
    (l.map fun p => match p.eqClaim with | some c => c.share | none => 0).sum := by
  unfold committedShare
  congr 1
  apply List.map_congr_left
  intro p _
  unfold PeerRecord.eqShare
  cases p.eqClaim <;> rfl

theorem engine_waiting_iff : s.engine = .waiting ↔ s.lin.attempt = none ∧ s.nextNotice.isSome = true := by
  unfold State.engine
  cases s.lin.attempt <;> cases s.nextNotice <;> simp

/-! ### Need and fitness -/

theorem usable_iff (c : Channel) : c.usable = true ↔ c.freshness ≠ .stale := by unfold Channel.usable; simp

theorem not_usable (c : Channel) : c.usable = false ↔ c.freshness = .stale := by unfold Channel.usable; simp

theorem temperatureWithin_iff (t : Option Int) (lo hi) : temperatureWithin t lo hi = true ↔
    TemperatureIn t lo hi := by
  unfold temperatureWithin TemperatureIn
  cases t <;> simp

theorem fitToEqualise_iff (u : State) : fitToEqualise u = true ↔ FitToEqualise u := by
  unfold fitToEqualise
  simp only [Bool.and_eq_true, decide_eq_true_eq, Bool.not_eq_true', usable_iff, temperatureWithin_iff, and_assoc]
  exact ⟨fun ⟨a,b,c,d,e,f⟩ => ⟨a,b,c,d,e,f⟩, fun ⟨a,b,c,d,e,f⟩ => ⟨a,b,c,d,e,f⟩⟩

theorem fitToWater_iff (u : State) : fitToWater u = true ↔ FitToWater u := by
  unfold fitToWater State.stringFull State.rested
  simp only [Bool.and_eq_true, decide_eq_true_eq, Bool.not_eq_true', temperatureWithin_iff, and_assoc, beq_iff_eq]
  exact ⟨fun ⟨a,b,c,d,e,f⟩ => ⟨a,b,c,d,e,f⟩, fun ⟨a,b,c,d,e,f⟩ => ⟨a,b,c,d,e,f⟩⟩

theorem needsWater_iff (u : State) : needsWater u = true ↔ NeedsWater u := by
  unfold needsWater NeedsWater; simp

/-! ### Withdrawal, loss and release -/

theorem withdraw_queued {r} (h : (s.clm.machine r).state = .queued) : Machine.withdraw r s = s.unqueued r := by
  unfold Machine.withdraw State.unqueued; dsimp only; rw [h]; rfl

theorem withdraw_contending {r} (h : (s.clm.machine r).state = .contending) : Machine.withdraw r s =
    s.withdrawn r := by
  unfold Machine.withdraw State.withdrawn startBackOff State.backOffUs secondsUs; dsimp only; rw [h]; dsimp only
  cases r <;> rfl

theorem releaseClaim_eq (o) (v : State) : releaseClaim .eq o v =
    { v with clm.eq := if v.clm.eq.state = .held then { v.clm.eq with state := .releasing,
                                                                      reason := releaseReason o,
                                                                      yielding := false } else v.clm.eq } := by
  unfold releaseClaim Clm.machine State.withMachine Clm.withMachine
  dsimp only
  cases hv : v.clm.eq.state <;> simp

theorem releaseClaim_water_eq (o) (v : State) : releaseClaim .water o v =
    { v with clm.water := if v.clm.water.state = .held then
               { v.clm.water with state := .releasing, reason := releaseReason o, yielding := false } else
               v.clm.water } := by
  unfold releaseClaim Clm.machine State.withMachine Clm.withMachine
  dsimp only
  cases hv : v.clm.water.state <;> simp

theorem backToDue_eq {r : Resource} : s.rnd.round = (match r with | .eq => .claiming | .water => .waterClaiming) →
    backToDue r s = { s with rnd.round := match r with | .eq => .due | .water => .waterDue } := by
  intro h
  unfold backToDue
  cases r
  · have h : s.rnd.round = .claiming := h
    split <;> simp_all
  · have h : s.rnd.round = .waterClaiming := h
    split <;> simp_all

theorem claimOutranked_pending_spec {r : Resource} : s.rnd.round =
    (match r with | .eq => .claiming | .water => .waterClaiming) →
    ((s.clm.machine r).state = .queued → claimOutranked r s =
        { (s.unqueued r).backingOff r with rnd.round := match r with | .eq => .due | .water => .waterDue }) ∧
    ((s.clm.machine r).state = .contending → claimOutranked r s =
        { s.withdrawn r with rnd.round := match r with | .eq => .due | .water => .waterDue }) := by
  intro hr
  constructor
  · intro h
    unfold claimOutranked; dsimp only; rw [h]; dsimp only
    rw [withdraw_queued h]
    have : startBackOff r (s.unqueued r) = (s.unqueued r).backingOff r := rfl
    rw [this]
    exact backToDue_eq (s := (s.unqueued r).backingOff r) (by cases r <;> exact hr)
  · intro h
    unfold claimOutranked; dsimp only; rw [h]; dsimp only
    rw [withdraw_contending h]
    exact backToDue_eq (s := s.withdrawn r) (by cases r <;> exact hr)

theorem claimOutranked_held_eq {r : Resource} (h : (u.clm.machine r).state = .held) : claimOutranked r u =
    if (u.clm.machine r).yielding then u else rndYield
        (u.withMachine r { u.clm.machine r with yielding := true }) := by
  show (match (u.clm.machine r).state with
    | .queued => backToDue r (startBackOff r (withdraw r u))
    | .contending => backToDue r (withdraw r u)
    | .held => if (u.clm.machine r).yielding then u else rndYield
        (u.withMachine r { u.clm.machine r with yielding := true })
    | .none => u
    | .releasing => u) = _
  rw [h]

theorem holdMachine_not_pending {r : Resource} (h : ¬ claimPending (s.clm.machine r).state) : holdMachine r s =
    s := by
  unfold holdMachine
  split
  · next q => exact (h (.inl q)).elim
  · next q => exact (h (.inr q)).elim
  all_goals rfl

theorem holdMachine_spec {r : Resource} : s.rnd.round = (match r with | .eq => .claiming | .water => .waterClaiming) →
    ((s.clm.machine r).state = .queued → holdMachine r s =
        { s.unqueued r with rnd.round := match r with | .eq => .due | .water => .waterDue }) ∧
    ((s.clm.machine r).state = .contending → holdMachine r s =
        { s.withdrawn r with rnd.round := match r with | .eq => .due | .water => .waterDue }) := by
  intro hr
  constructor
  · intro h
    unfold holdMachine
    rw [h]; dsimp only
    rw [withdraw_queued h]
    exact backToDue_eq (s := s.unqueued r) (by cases r <;> exact hr)
  · intro h
    unfold holdMachine
    rw [h]; dsimp only
    rw [withdraw_contending h]
    exact backToDue_eq (s := s.withdrawn r) (by cases r <;> exact hr)

theorem stopClaim_spec {r : Resource} : 
    ((s.clm.machine r).state = .queued → stopClaim r s = { (s.unqueued r).backingOff r with rnd.round := .float }) ∧
    ((s.clm.machine r).state = .contending → stopClaim r s = { s.withdrawn r with rnd.round := .float }) := by
  constructor
  · intro h
    unfold stopClaim; rw [h]; dsimp only; rw [withdraw_queued h]
    rfl
  · intro h
    unfold stopClaim; rw [h]; dsimp only; rw [withdraw_contending h]
    cases r <;> rfl

/-! ### Conflict and rank -/

theorem testEqUpdate_of_not_tests {b a : PeerRecord} (h : (eqChange b.eqClaim a.eqClaim).tests = false) :
    testEqUpdate b a s = s := by
  unfold testEqUpdate; split <;> [(rw [if_neg]; rw [h]; simp); rfl]

theorem testWaterUpdate_of_not_tests {b a : PeerRecord}
    (h : (waterChange b.waterClaim a.waterClaim).tests = false) : testWaterUpdate b a s = s := by
  unfold testWaterUpdate; split <;> [(rw [if_neg]; rw [h]; simp); rfl]

theorem eqConflict_iff {p : PeerRecord} {c : EqClaim} : eqConflict s p c = true ↔ ¬ NoConflict s p c.share := by
  have hres : p.inReserve s.cfg.config.period = true ↔ InReserve s p := by
    unfold PeerRecord.inReserve PeerRecord.isFresh InReserve; simp [and_assoc]
  constructor
  · rintro h ⟨h1, h2⟩
    unfold eqConflict at h
    dsimp only at h
    rw [Bool.or_eq_true, decide_eq_true_eq, decide_eq_true_eq] at h
    rcases h with h | h
    · have := h1 _ (if s.acc.discharging then 0 else 1) (if p.inReserve s.cfg.config.period then 1 else 0) rfl (fun q => by simp [q]) (fun q => by simp [q]) (fun q => by simp [hres.2 q]) (fun q => by rw [← hres] at q; simp [q])
      rw [← availableUnclaimed_eq] at this
      omega
    · have := h2 (committedShare s.ptb) (committedShare_eq _)
      omega
  · intro h
    by_contra hc
    apply h
    unfold eqConflict at hc
    dsimp only at hc
    rw [Bool.or_eq_true, decide_eq_true_eq, decide_eq_true_eq, not_or] at hc
    refine ⟨fun un ow pe h1 h2 h3 h4 h5 => ?_, fun co h1 => ?_⟩
    · rw [← availableUnclaimed_eq] at h1
      have e1 : ow = (if s.acc.discharging then 0 else 1) := by
        cases hd : s.acc.discharging
        · exact h2 hd
        · exact h3 hd
      have e2 : pe = (if p.inReserve s.cfg.config.period then 1 else 0) := by
        split
        · next q => exact h4 (hres.1 q)
        · next q => exact h5 (fun z => q (hres.2 z))
      omega
    · have h1' : co = committedShare s.ptb := h1.trans (committedShare_eq _).symm
      omega

theorem outranks_same_phase (p : ClaimPhase) (n a n' a') : outranks p n a p n' a' = true ↔ Outranks n a n' a' := by
  unfold outranks Outranks; cases p <;> simp

/-! ### The share reduction -/

theorem reduceShare_of_not_working (c : Channel) {v : State} (h1 : v.rnd.round ≠ .equalising)
    (h2 : v.rnd.round ≠ .soak) : reduceShare c v = v := by
  unfold reduceShare; rw [if_neg]; rintro ⟨h | h, -⟩ <;> contradiction

theorem appendCurrent_spec (h : List Int) (i) : (h.length < 60 → appendCurrent h i = h ++ [i]) ∧
    (h.length = 60 → appendCurrent h i = h.tail ++ [i]) := by
  unfold appendCurrent
  dsimp only
  constructor
  · intro hl
    have : (h ++ [i]).length - 60 = 0 := by simp; omega
    rw [this]; rfl
  · intro hl
    have : (h ++ [i]).length - 60 = 1 := by simp [hl]
    rw [this]
    cases h with
    | nil => simp at hl
    | cons a l => rfl

/-! ### The peer table -/

theorem findPeer_putPeer (l : List PeerRecord) (p : PeerRecord) : findPeer (putPeer p l) p.address =
    some p ∧ ∀ a, a ≠ p.address → findPeer (putPeer p l) a = findPeer l a := by
  unfold findPeer
  induction l with
  | nil => 
    refine ⟨by simp [putPeer], fun a ha => ?_⟩
    simp [putPeer]; exact fun h => ha h.symm
  | cons q l ih =>
    unfold putPeer
    split
    · refine ⟨by simp, fun a ha => ?_⟩
      have h0 : (p.address == a) = false := by simpa using fun h => ha h.symm
      rw [List.find?_cons]; simp only [h0]
    · split
      · next h1 h2 =>
        refine ⟨by simp, fun a ha => ?_⟩
        have h0 : (p.address == a) = false := by simpa using fun h => ha h.symm
        have h3 : (q.address == a) = false := by rw [← h2]; exact h0
        rw [List.find?_cons, List.find?_cons]; simp only [h0, h3]
      · next h1 h2 =>
        refine ⟨?_, fun a ha => ?_⟩
        · rw [List.find?_cons]; simp only [show (q.address == p.address) = false by simpa using fun h => h2 h.symm]; exact ih.1
        · rw [List.find?_cons, List.find?_cons]
          cases q.address == a
          · exact ih.2 a ha
          · rfl

theorem putPeer_spec (l) (p : PeerRecord) : PeerWritten l (putPeer p l) p := findPeer_putPeer l p

theorem renewedPeer_spec (l) (a) : RecordRenewed l a (renewedPeer l a) := by
  unfold renewedPeer
  refine ⟨fun q hq => by rw [hq]; rfl, fun h => by rw [h]; rfl⟩

theorem renewedPeer_unique {l a p} (h : RecordRenewed l a p) : p = renewedPeer l a := by
  unfold renewedPeer
  cases hf : findPeer l a with
  | none => exact h.created hf
  | some q => exact h.held q hf

theorem findPeer_address {l : List PeerRecord} {a q} (h : findPeer l a = some q) : q.address = a := by
  have := List.find?_some h; simpa using this

theorem renewedPeer_address {l a} : (renewedPeer l a).address = a := by
  unfold renewedPeer
  cases hf : findPeer l a with
  | none => rfl
  | some q => show q.address = a; exact findPeer_address hf

end Sys2Proof.Machine
end

