-- ==== Sys2Proof/Laws/Frames.lean ====
section
/-! SUPPORT. What the operations of RND and CLM leave alone: everything outside CLM, RND, its watering side, the account
and the duty in course; one lemma per operation. -/

namespace Sys2Proof.Machine

/-- `t` differs from `s` in nothing outside CLM's machines and queue, RND, the account and the duty in course. -/
structure RoundFrame (s t : State) : Prop where
  now : t.now = s.now
  nextSecond : t.nextSecond = s.nextSecond
  nextHour : t.nextHour = s.nextHour
  resets : t.resets = s.resets
  cfg : t.cfg = s.cfg
  scn : t.scn = s.scn
  mon : t.mon = s.mon
  lin : t.lin = s.lin
  ptb : t.ptb = s.ptb
  pending : t.pending = s.pending
  nextTag : t.clm.nextTag = s.clm.nextTag
  statusTimer : t.clm.statusTimer = s.clm.statusTimer
  reportQueued : t.clm.reportQueued = s.clm.reportQueued
  temperature : t.rnd.temperature = s.rnd.temperature
  restTimer : t.rnd.restTimer = s.rnd.restTimer
  fld : t.fld = { s.fld with pwmDuty := t.fld.pwmDuty }

theorem RoundFrame.refl (s : State) : RoundFrame s s :=
  ⟨rfl, rfl, rfl, rfl, rfl, rfl, rfl, rfl, rfl, rfl, rfl, rfl, rfl, rfl, rfl, rfl⟩

theorem RoundFrame.trans {s t u : State} (h : RoundFrame s t) (k : RoundFrame t u) : RoundFrame s u where
  now := k.now.trans h.now
  nextSecond := k.nextSecond.trans h.nextSecond
  nextHour := k.nextHour.trans h.nextHour
  resets := k.resets.trans h.resets
  cfg := k.cfg.trans h.cfg
  scn := k.scn.trans h.scn
  mon := k.mon.trans h.mon
  lin := k.lin.trans h.lin
  ptb := k.ptb.trans h.ptb
  pending := k.pending.trans h.pending
  nextTag := k.nextTag.trans h.nextTag
  statusTimer := k.statusTimer.trans h.statusTimer
  reportQueued := k.reportQueued.trans h.reportQueued
  temperature := k.temperature.trans h.temperature
  restTimer := k.restTimer.trans h.restTimer
  fld := by rw [k.fld, h.fld]

/-- One branch of a two-way choice. -/
theorem RoundFrame.ite {s t u : State} {c : Prop} [Decidable c] (h : RoundFrame s t) (k : RoundFrame s u) :
    RoundFrame s (if c then t else u) := by
  split
  · exact h
  · exact k

theorem frame_requestStatus (s : State) : RoundFrame s (requestStatus s) := by
  unfold requestStatus; split <;> exact (by constructor <;> rfl)

theorem frame_withMachine (r : Resource) (m : ClaimMachine) (s : State) : RoundFrame s (s.withMachine r m) := by
  cases r <;> exact (by constructor <;> rfl)

theorem frame_startBackOff (r : Resource) (s : State) : RoundFrame s (startBackOff r s) := by
  cases r <;> exact (by constructor <;> rfl)

theorem frame_setDuty (s : State) (d : Nat) : RoundFrame s (setDuty s d) := by
  constructor <;> rfl

theorem frame_withdraw (r : Resource) (s : State) : RoundFrame s (withdraw r s) := by
  unfold withdraw
  dsimp only
  split
  · exact frame_withMachine _ _ _
  · exact (frame_withMachine _ _ _).trans (frame_startBackOff _ _)
  all_goals exact .refl s

theorem frame_releaseClaim (r : Resource) (o : RoundOutcome) (s : State) : RoundFrame s (releaseClaim r o s) := by
  unfold releaseClaim
  dsimp only
  split
  · exact frame_withMachine _ _ _
  all_goals exact .refl s

theorem frame_zeroShare (s : State) : RoundFrame s (zeroShare s) := by
  unfold zeroShare
  split
  · exact .trans (by constructor <;> rfl) (frame_requestStatus _)
  · exact .refl s

theorem frame_fixOutcome (o : RoundOutcome) (c : Option AbortCause) (s : State) : RoundFrame s (fixOutcome o c s) := by
  constructor <;> rfl

theorem frame_enterInhibited (s : State) : RoundFrame s (enterInhibited s) :=
  .trans (by constructor <;> rfl) (frame_requestStatus _)

theorem frame_enterRest (s : State) : RoundFrame s (enterRest s) := by
  constructor <;> rfl

/-- The last part of the end of an equalising round. -/
theorem frame_equaliseTail (b : Prop) [Decidable b] (u : State) :
    RoundFrame u (if u.rnd.inhibit then enterInhibited u else if b then enterRest u
      else { u with rnd.round := .float }) :=
  .ite (frame_enterInhibited u) (.ite (frame_enterRest u) (by constructor <;> rfl))

theorem frame_equaliseEnd (s : State) : RoundFrame s (equaliseEnd s) := by
  unfold equaliseEnd
  refine .trans ?_ (frame_equaliseTail _ _)
  have h : ∀ c : State, RoundFrame s c → RoundFrame s
      { releaseClaim .eq s.roundOutcome c with rnd.demand := false, rnd.applied := 0, rnd.pendingValid := false } :=
    fun c k => (k.trans (frame_releaseClaim .eq s.roundOutcome c)).trans (by constructor <;> rfl)
  exact h _ (by constructor <;> rfl)

theorem frame_enterStuck (s : State) : RoundFrame s (enterStuck s) :=
  .trans (by constructor <;> rfl) (frame_zeroShare _)

theorem frame_recoverySucceeds (l : Bool) (s : State) : RoundFrame s (recoverySucceeds l s) :=
  .trans (by constructor <;> rfl) (frame_equaliseEnd _)

theorem frame_commandFloatWithCheck (l : Bool) (s : State) : RoundFrame s (commandFloatWithCheck l s) := by
  unfold commandFloatWithCheck
  refine .trans (by constructor <;> rfl) (.ite ?_
    (frame_recoverySucceeds _ _))
  exact (by constructor <;> rfl)

theorem frame_commandFloatWithWindow (s : State) : RoundFrame s (commandFloatWithWindow s) := by
  unfold commandFloatWithWindow
  refine .trans (by constructor <;> rfl) (.ite ?_ (frame_enterStuck _))
  exact (by constructor <;> rfl)

theorem frame_enterTransferBack (s : State) : RoundFrame s (enterTransferBack s) := by
  constructor <;> rfl

theorem frame_goBack (o : RoundOutcome) (c : Option AbortCause) (s : State) : RoundFrame s (goBack o c s) := by
  constructor <;> rfl

theorem frame_moveOutFails (s : State) : RoundFrame s (moveOutFails s) :=
  .trans (by constructor <;> rfl) (frame_commandFloatWithCheck _ _)

theorem frame_moveOutSucceeds (s : State) : RoundFrame s (moveOutSucceeds s) := by
  unfold moveOutSucceeds
  have h : RoundFrame s { s with rnd.transferFrom := none, rnd.deferred := none } := by constructor <;> rfl
  split
  · exact .trans (by constructor <;> rfl) (frame_setDuty _ _)
  all_goals exact h.trans (frame_goBack _ _ _)

theorem frame_enterTransferOut (s : State) : RoundFrame s (enterTransferOut s) := by
  unfold enterTransferOut
  refine .trans (by constructor <;> rfl) (.ite (frame_moveOutFails _) ?_)
  exact (by constructor <;> rfl)

theorem frame_enterPrepare (n : Nat) (s : State) : RoundFrame s (enterPrepare n s) := by
  unfold enterPrepare
  refine .trans (by constructor <;> rfl)
    (.ite (frame_enterTransferOut _) (.refl _))

theorem frame_prepareEnds (o : RoundOutcome) (c : Option AbortCause) (s : State) : RoundFrame s (prepareEnds o c s) :=
  .trans (by constructor <;> rfl) (frame_equaliseEnd _)

theorem frame_deferCause (d : DeferredCause) (s : State) : RoundFrame s (deferCause d s) := by
  constructor <;> rfl

theorem frame_uncommandedOutsideRound (s : State) : RoundFrame s (uncommandedOutsideRound s) :=
  .trans (by constructor <;> rfl) (frame_enterInhibited _)

theorem frame_fbToEqualise (s : State) : RoundFrame s (fbToEqualise s) := by
  unfold fbToEqualise
  split
  · split
    · exact .ite (frame_moveOutFails _) (frame_moveOutSucceeds _)
    · exact .refl s
  · exact .trans (by constructor <;> rfl)
      (frame_commandFloatWithCheck _ _)
  all_goals first
    | exact .refl s
    | exact frame_uncommandedOutsideRound _
    | exact (frame_withdraw _ _).trans (frame_uncommandedOutsideRound _)
    | exact (by constructor <;> rfl)

theorem frame_fbToFloat (s : State) : RoundFrame s (fbToFloat s) := by
  unfold fbToFloat
  split
  · exact .trans (by constructor <;> rfl)
      (frame_commandFloatWithCheck _ _)
  · exact .trans (by constructor <;> rfl)
      (frame_commandFloatWithCheck _ _)
  · split
    · exact .ite (frame_enterStuck _)
        (.trans (by constructor <;> rfl) (frame_equaliseEnd _))
    · exact frame_recoverySucceeds _ _
    · exact .ite (.trans (by constructor <;> rfl)
        (frame_commandFloatWithCheck _ _)) (.refl s)
  all_goals exact .refl s

theorem frame_chargerBecomesReady (s : State) : RoundFrame s (chargerBecomesReady s) :=
  .ite (frame_enterTransferOut s) (.refl s)

theorem frame_chargerLost (s : State) : RoundFrame s (chargerLost s) := by
  unfold chargerLost
  split <;> first | exact .refl s | exact frame_goBack _ _ _ | exact frame_deferCause _ _

theorem frame_transferLate (s : State) : RoundFrame s (transferLate s) := by
  unfold transferLate
  split <;> first | exact .refl s | exact frame_moveOutFails s | exact frame_enterStuck s

theorem frame_applyPending (s : State) : RoundFrame s (applyPending s) :=
  .ite (by constructor <;> rfl) (.refl s)

theorem frame_stepBand (s : State) : RoundFrame s (stepBand s) := by
  constructor <;> rfl

theorem frame_equaliseSample (s : State) : RoundFrame s (equaliseSample s) := by
  unfold equaliseSample
  refine .ite (frame_goBack _ _ s) (.ite (frame_goBack _ _ s) ?_)
  dsimp only
  split
  · exact (frame_stepBand s).trans (frame_goBack _ _ _)
  · exact ((frame_stepBand s).trans (frame_applyPending _)).trans (frame_setDuty _ _)

theorem frame_prepareSample (s : State) : RoundFrame s (prepareSample s) :=
  .ite (frame_prepareEnds _ _ s) (.ite (frame_prepareEnds _ _ s) (.refl s))

theorem frame_backSample (s : State) : RoundFrame s (backSample s) :=
  .ite (frame_commandFloatWithWindow s) (.refl s)

theorem frame_withGroup (g : Fin 8) (r : GroupRecord) (s : State) : RoundFrame s (s.withGroup g r) := by
  constructor <;> rfl

theorem frame_closeValveAtEnd (s : State) : RoundFrame s (closeValveAtEnd s) :=
  .ite (by constructor <;> rfl) (.refl s)

theorem frame_wateringEnds (o : RoundOutcome) (c : Option AbortCause) (s : State) :
    RoundFrame s (wateringEnds o c s) := by
  unfold wateringEnds
  dsimp only
  refine .trans (.trans (frame_fixOutcome o c s) (frame_closeValveAtEnd _)) ?_
  refine .trans (.trans ?_ (frame_releaseClaim .water _ _)) (.ite (frame_enterInhibited _) ?_)
  · exact (by constructor <;> rfl)
  · exact (by constructor <;> rfl)

theorem frame_wateringConflict (s : State) : RoundFrame s (wateringConflict s) :=
  .trans (by constructor <;> rfl) (frame_wateringEnds _ _ _)

theorem frame_wateringDry (s : State) : RoundFrame s (wateringDry s) :=
  .trans (by constructor <;> rfl) (frame_wateringEnds _ _ _)

theorem frame_openPulse (g : Fin 8) (s : State) : RoundFrame s (openPulse g s) := by
  constructor <;> rfl

theorem frame_closePulse (s : State) : RoundFrame s (closePulse s) := by
  constructor <;> rfl

theorem frame_startGroups (l : List (Fin 8)) : ∀ s : State, RoundFrame s (startGroups l s) := by
  induction l with
  | nil =>
    intro s
    exact .trans (by constructor <;> rfl) (frame_wateringEnds _ _ _)
  | cons g rest ih =>
    intro s
    exact .ite (.trans (frame_withGroup _ _ _) (ih _))
      (.trans (by constructor <;> rfl) (frame_openPulse _ _))

theorem frame_enterWatering (s : State) : RoundFrame s (enterWatering s) :=
  .trans (by constructor <;> rfl) (frame_startGroups _ _)

theorem frame_closedPeriodEnds (s : State) : RoundFrame s (closedPeriodEnds s) := by
  unfold closedPeriodEnds
  split
  · exact (by constructor <;> rfl)
  · split
    · exact (frame_withGroup _ _ _).trans (frame_startGroups _ _)
    · exact frame_openPulse _ _

theorem frame_checkClosedPeriod (s : State) : RoundFrame s (checkClosedPeriod s) :=
  .ite (frame_closedPeriodEnds s) (.refl s)

theorem frame_flowInDose (g : Fin 8) (s : State) : RoundFrame s (flowInDose g s) := by
  unfold flowInDose
  have hc : RoundFrame s (countFlow g s) := frame_withGroup _ _ _
  refine .ite (hc.trans (frame_wateringConflict _)) (.trans ?_ (frame_checkClosedPeriod _))
  refine .trans ?_ (.ite (frame_closePulse _) (.refl _))
  exact .ite (hc.trans (by constructor <;> rfl)) hc

theorem frame_flowPulse (s : State) : RoundFrame s (flowPulse s) := by
  unfold flowPulse flowOutsideDose
  split
  · split
    · split
      · exact frame_flowInDose _ _
      · exact .refl s
    · exact .refl s
  · split <;> try exact .refl s
    · exact .ite (frame_wateringConflict s) (.refl s)
    · exact .ite (.refl s) (by constructor <;> rfl)

theorem frame_flowWindowPasses (s : State) : RoundFrame s (flowWindowPasses s) := by
  unfold flowWindowPasses
  refine .trans (by constructor <;> rfl)
    (.ite (frame_checkClosedPeriod _) ?_)
  exact .trans (by constructor <;> rfl)
    (.ite (frame_wateringDry _) (frame_checkClosedPeriod _))

theorem frame_probeToWet (g : Fin 8) (s : State) : RoundFrame s (probeToWet g s) :=
  .ite (.trans (by constructor <;> rfl) (frame_closePulse _)) (.refl s)

theorem frame_backToDue (r : Resource) (s : State) : RoundFrame s (backToDue r s) := by
  unfold backToDue
  split <;> first | exact .refl s | exact (by constructor <;> rfl)

theorem frame_claimHeld (r : Resource) (s : State) : RoundFrame s (claimHeld r s) := by
  cases r
  · have h : RoundFrame s { s.withMachine .eq { s.clm.eq with state := .held, windowTimer := none, yielding := false }
        with clm.history := [], clm.lowRun := 0 } := by constructor <;> rfl
    exact h.trans (frame_enterPrepare _ _)
  · exact (frame_withMachine .water _ s).trans (frame_enterWatering _)

theorem frame_windowExpires (r : Resource) (s : State) : RoundFrame s (windowExpires r s) :=
  .ite (frame_claimHeld r s) ((frame_withdraw r s).trans (frame_backToDue r _))

theorem frame_rndYield (s : State) : RoundFrame s (rndYield s) := by
  unfold rndYield
  split <;> first
    | exact .refl s | exact frame_prepareEnds _ _ s | exact frame_goBack _ _ s | exact frame_deferCause _ s
    | exact frame_wateringEnds _ _ s

theorem frame_claimOutranked (r : Resource) (s : State) : RoundFrame s (claimOutranked r s) := by
  unfold claimOutranked
  dsimp only
  split
  · exact ((frame_withdraw r s).trans (frame_startBackOff r _)).trans (frame_backToDue r _)
  · exact (frame_withdraw r s).trans (frame_backToDue r _)
  · exact .ite (.refl s) ((frame_withMachine r _ s).trans (frame_rndYield _))
  all_goals exact .refl s

theorem frame_testEqUpdate (before after : PeerRecord) (s : State) : RoundFrame s (testEqUpdate before after s) := by
  unfold testEqUpdate
  split
  · exact .ite (frame_claimOutranked _ s) (.refl s)
  · exact .refl s

theorem frame_testWaterUpdate (before after : PeerRecord) (s : State) :
    RoundFrame s (testWaterUpdate before after s) := by
  unfold testWaterUpdate
  split
  · exact .ite (frame_claimOutranked _ s) (.refl s)
  · exact .refl s

/-- A peer update sets the table and runs CLM's tests; all else outside CLM and RND stays. -/
theorem frame_peerUpdated (before after : PeerRecord) (s : State) :
    RoundFrame { s with ptb := putPeer after s.ptb } (peerUpdated before after s) :=
  (frame_testEqUpdate before after _).trans (frame_testWaterUpdate before after _)

theorem frame_holdMachine (r : Resource) (s : State) : RoundFrame s (holdMachine r s) := by
  unfold holdMachine
  split <;> first | exact .refl s | exact (frame_withdraw r s).trans (frame_backToDue r _)

theorem frame_holdStarts (s : State) : RoundFrame s (holdStarts s) :=
  (frame_holdMachine .eq s).trans (frame_holdMachine .water _)

theorem frame_stopClaim (r : Resource) (s : State) : RoundFrame s (stopClaim r s) := by
  unfold stopClaim
  split <;> first
    | exact .refl s
    | exact ((frame_withdraw r s).trans (frame_startBackOff r _)).trans
        (by constructor <;> rfl)

theorem frame_stopActs (s : State) : RoundFrame s (stopActs s) := by
  unfold stopActs
  split <;> first
    | exact .refl s | exact frame_stopClaim _ s
    | exact .trans (by constructor <;> rfl) (frame_startBackOff _ _)
    | exact .ite (frame_prepareEnds _ _ s) (.refl s) | exact .ite (frame_goBack _ _ s) (.refl s)
    | exact .ite (frame_deferCause _ s) (.refl s) | exact .ite (frame_wateringEnds _ _ s) (.refl s)

theorem frame_roundLeavesLine (c : AbortCause) (s : State) : RoundFrame s (roundLeavesLine c s) := by
  unfold roundLeavesLine
  cases s.rnd.round
  case prepare => exact frame_prepareEnds _ _ s
  case watering => exact frame_wateringEnds _ _ s
  case transferOut => exact .trans (by constructor <;> rfl) (frame_commandFloatWithCheck _ _)
  case equalising => exact .trans (by constructor <;> rfl) (frame_commandFloatWithWindow _)
  case soak => exact .trans (by constructor <;> rfl) (frame_commandFloatWithWindow _)
  case transferBack => exact .ite (frame_commandFloatWithWindow s) (.refl s)
  all_goals exact (by constructor <;> rfl)

theorem frame_reduceShare (c : Channel) (s : State) : RoundFrame s (reduceShare c s) := by
  unfold reduceShare
  refine .ite ?_ (.refl s)
  refine .ite (.trans ?_ (frame_requestStatus _)) ?_ <;>
    exact (by constructor <;> rfl)

theorem frame_clearLatches (s : State) : RoundFrame s (clearLatches s) := by
  unfold clearLatches
  refine .trans (by constructor <;> rfl) (.ite ?_ (.ite ?_ (.refl _)))
  · exact (by constructor <;> rfl)
  · exact (frame_enterTransferBack _).trans (frame_commandFloatWithCheck _ _)

theorem frame_claimCompleted (r : Resource) (n : Nat) (s : State) : RoundFrame s (claimCompleted r n s) :=
  .ite (frame_withMachine _ _ _) (.ite ((frame_withMachine _ _ _).trans (frame_startBackOff _ _)) (.refl s))

theorem frame_releaseCompleted (r : Resource) (n : Nat) (s : State) : RoundFrame s (releaseCompleted r n s) :=
  .ite (frame_withMachine _ _ _) (.refl s)

end Sys2Proof.Machine
end

