-- ==== Sys2Proof/Laws/Rounds.lean ====
section
/-! SUPPORT. What the shared operations of RND do, said once: how a round goes back, ends, fails and recovers, plans
and doses. -/

namespace Sys2Proof.Machine

variable {s t u : State}

/-! ### The equalising round -/

theorem minutesSince_eq (a b) : minutesSince a b = min 65535 ((b - a) / 60000000) := rfl

theorem acc_equaliseEnd_eq (a : Acc) (o) : a.equaliseEnd o =
    { a with forceEq := false, forceWater := false, hours := if o = .complete ∨ o = .timedOut then 0 else a.hours,
             discharged := if o = .complete ∨ o = .timedOut then 0 else a.discharged,
             restarted := if o = .complete ∨ o = .timedOut then false else a.restarted } := by
  unfold Acc.equaliseEnd; dsimp only
  by_cases h : o = .complete ∨ o = .timedOut
  · simp only [if_pos h]
  · simp only [if_neg h]

theorem equaliseEnd_eq {r : OpenRecord} {o c} (hr : s.rnd.record = some r) (ho : r.outcome = some o)
    (hc : r.cause = c) : equaliseEnd s =
    { s with
      acc := { s.acc with forceEq := false, forceWater := false,
                          hours := if o = .complete ∨ o = .timedOut then 0 else s.acc.hours,
                          discharged := if o = .complete ∨ o = .timedOut then 0 else s.acc.discharged,
                          restarted := if o = .complete ∨ o = .timedOut then false else s.acc.restarted }
      clm := { s.clm with eq := if s.clm.eq.state = .held then
                            { s.clm.eq with state := .releasing, reason := releaseReason o, yielding := false } else
                            s.clm.eq, statusQueued := if s.rnd.inhibit then
                            s.clm.statusQueued || queueOpen s.cfg.mode else s.clm.statusQueued }
      rnd := { s.rnd with round := if s.rnd.inhibit then .inhibited else if o = .complete ∨ o = .timedOut then
                            .rest else .float, record := none,
                          lastEq := some { outcome := o, cause := c,
                                           minutes := min 65535 ((s.now - r.openedAt) / 60000000) },
                          demand := false, applied := 0, pendingValid := false,
                          restPeriod := if s.rnd.inhibit then s.rnd.restPeriod else
                            if o = .complete ∨ o = .timedOut then
                            some (s.now + s.cfg.config.restHours * 3600000000) else s.rnd.restPeriod } } := by
  have hout : s.roundOutcome = o := by unfold State.roundOutcome; rw [hr]; simp [ho]
  have hl : (s.rnd.record.map (closeRecord s.now)).or s.rnd.lastEq =
      some { outcome := o, cause := c, minutes := min 65535 ((s.now - r.openedAt) / 60000000) } := by
    rw [hr]; simp only [Option.map_some, closeRecord, ho, hc, minutesSince_eq]; rfl
  unfold equaliseEnd
  rw [hout, hl]
  dsimp only
  rw [acc_equaliseEnd_eq, releaseClaim_eq]
  unfold enterInhibited enterRest
  dsimp only
  by_cases hi : s.rnd.inhibit = true
  · simp only [hi, if_true, requestStatus_eq]
  · have hi : s.rnd.inhibit = false := by simpa using hi
    by_cases hcp : o = .complete ∨ o = .timedOut
    · simp only [hi, if_pos hcp, Bool.false_eq_true, if_false]; rfl
    · simp only [hi, if_neg hcp, Bool.false_eq_true, if_false]

theorem equaliseEnd_spec {r : OpenRecord} {o c} (hr : s.rnd.record = some r) (ho : r.outcome = some o)
    (hc : r.cause = c) (x) :
    EqualiseEnded o c r.openedAt { s with rnd.record := x } (equaliseEnd s) := by
  rw [equaliseEnd_eq hr ho hc]
  refine ⟨rfl, fun h => ?_, fun h1 h2 => ?_, fun h => ⟨?_, fun q => ?_, fun q => ?_, fun q => ?_⟩, fun h => ?_,
      fun h => ?_, fun h q => ?_, fun h h1 h2 => ?_⟩
  · exact ⟨if_pos h, if_pos h, if_pos h⟩
  · have : ¬ (o = .complete ∨ o = .timedOut) := by tauto
    exact ⟨if_neg this, if_neg this, if_neg this⟩
  · exact (if_pos h).trans (by rw [if_pos (show s.clm.eq.state = .held from h)])
  · refine (congrArg ClaimMachine.reason (if_pos h)).trans ?_; rcases q with rfl | rfl <;> rfl
  · refine (congrArg ClaimMachine.reason (if_pos h)).trans ?_; subst q; rfl
  · refine (congrArg ClaimMachine.reason (if_pos h)).trans ?_; subst q; rfl
  · exact if_neg h
  · exact ⟨if_pos h, if_pos h, if_pos h⟩
  · have h' : ¬ (s.rnd.inhibit = true) := by rw [show s.rnd.inhibit = false from h]; decide
    exact ⟨(if_neg h').trans (if_pos q), (if_neg h').trans (if_pos q), if_neg h'⟩
  · have h' : ¬ (s.rnd.inhibit = true) := by rw [show s.rnd.inhibit = false from h]; decide
    have : ¬ (o = .complete ∨ o = .timedOut) := by tauto
    exact ⟨(if_neg h').trans (if_neg this), (if_neg h').trans (if_neg this), if_neg h'⟩

theorem fixOutcome_eq {r : OpenRecord} (hr : s.rnd.record = some r) (ho : r.outcome = none) (o c) :
    fixOutcome o c s = { s with rnd.record := some { r with outcome := some o, cause := c } } := by
  unfold fixOutcome; rw [hr]; simp [ho]

theorem prepareEnds_spec {r : OpenRecord} (hr : s.rnd.record = some r) (ho : r.outcome = none) (o c) :
    EqualiseEnded o c r.openedAt { s with rnd.chargerWait := none } (prepareEnds o c s) := by
  unfold prepareEnds
  have := fixOutcome_eq (s := { s with rnd.chargerWait := none }) hr ho o c
  have e := equaliseEnd_spec (s := { s with rnd.chargerWait := none,
                                            rnd.record := some { r with outcome := some o, cause := c } }) (o :=
      o) (c := c) rfl rfl rfl s.rnd.record
  rw [this]
  exact e

theorem goBack_eq {r : OpenRecord} (hr : s.rnd.record = some r) (ho : r.outcome = none) (o c) : goBack o c s =
    s.sentBack r o c := by
  unfold goBack enterTransferBack fixOutcome setDuty State.sentBack State.backEntered
  dsimp only
  rw [hr]
  simp only [Option.map_some, ho, Option.isNone_none, if_true]
  rfl

theorem enterStuck_eq : enterStuck s = s.stuckEntered := by
  unfold enterStuck zeroShare State.stuckEntered requestStatus
  dsimp only
  by_cases hh : s.clm.eq.state = .held <;> by_cases hq : queueOpen s.cfg.mode = true <;> simp [hh, hq]

theorem commandFloatWithWindow_spec : WindowStarted s (commandFloatWithWindow s) := by
  constructor
  · intro h
    unfold commandFloatWithWindow State.fbEqualise; dsimp only; rw [if_pos h]
  · intro h
    unfold commandFloatWithWindow State.fbEqualise; dsimp only; rw [if_neg (by simp [h]), enterStuck_eq]

theorem commandFloatWithCheck_spec {r : OpenRecord} {o c} (hr : s.rnd.record = some r) (ho : r.outcome = some o)
    (hc : r.cause = c) (l) :
    RecoveryStarted l o c r.openedAt s (commandFloatWithCheck l s) := by
  constructor
  · intro h
    unfold commandFloatWithCheck State.fbEqualise; dsimp only; rw [if_pos h]; rfl
  · intro h
    unfold commandFloatWithCheck State.fbEqualise; dsimp only; rw [if_neg (by simp [h])]
    unfold recoverySucceeds
    dsimp only
    exact equaliseEnd_spec (s := { s with rnd.relay := .float, rnd.currentWait := none, rnd.transferFrom := none,
                                          rnd.recoveryCheck := none, rnd.inhibit := s.rnd.inhibit || l }) hr ho hc
        s.rnd.record

theorem enterTransferBack_fixOutcome_eq {r : OpenRecord} (hr : s.rnd.record = some r) (ho : r.outcome = none)
    (o c) : enterTransferBack (fixOutcome o c s) = s.backEntered r o c := by
  rw [fixOutcome_eq hr ho]; rfl

theorem moveOutFails_spec {r : OpenRecord} (hr : s.rnd.record = some r) (ho : r.outcome = none) :
    MoveOutFailed r s (moveOutFails s) := by
  unfold MoveOutFailed moveOutFails
  have := enterTransferBack_fixOutcome_eq (s := { s with rnd.transferFrom := none, rnd.deferred := none }) hr ho
      .aborted (some .transfer)
  rw [this]
  exact commandFloatWithCheck_spec (r := { r with outcome := some .aborted, cause := some .transfer }) rfl rfl rfl
      true

theorem enterTransferOut_spec {r : OpenRecord} (hr : s.rnd.record = some r) (ho : r.outcome = none) :
    TransferOutEntered r s (enterTransferOut s) := by
  constructor
  · intro h
    unfold enterTransferOut State.fbEqualise; dsimp only; rw [if_neg (by simp [h])]
  · intro h
    unfold enterTransferOut State.fbEqualise; dsimp only; rw [if_pos h]
    exact moveOutFails_spec (s := { s with rnd.round := .transferOut, rnd.chargerWait := none,
                                           rnd.relay := .equalise, rnd.deferred := none }) hr ho

theorem edgeEarly_false {n c : Nat} (h : c + 15000 ≤ n) : edgeEarly n c = false := by
  unfold edgeEarly earlyEdgeUs; rw [decide_eq_false_iff_not]; omega

theorem edgeEarly_true {n c : Nat} (h : n < c + 15000) : edgeEarly n c = true := by
  unfold edgeEarly earlyEdgeUs; rw [decide_eq_true_eq]; omega

theorem uncommandedOutsideRound_eq (v : State) : uncommandedOutsideRound v =
    State.statusAsked { v with rnd.inhibit := true, rnd.restPeriod := none, rnd.round := .inhibited } := by
  unfold uncommandedOutsideRound enterInhibited; rw [requestStatus_statusAsked]

/-! ### The watering round -/

theorem groupsAfterRound_get (n p) (l : List GroupRecord) (g : Fin 8) (hl : l.length = 8) :
    (groupsAfterRound n p l).getD g.val resetGroup =
    if g.val < n then groupAfterRound (p.any fun x => x.val == g.val) (l.getD g.val resetGroup) else
    l.getD g.val resetGroup := by
  unfold groupsAfterRound
  have : g.val < l.length := by rw [hl]; exact g.2
  simp [List.getD_eq_getElem?_getD, this]

theorem any_val_eq_mem (p : List (Fin 8)) (g : Fin 8) : (p.any fun x => x.val == g.val) = decide (g ∈ p) := by
  rw [Bool.eq_iff_iff, List.any_eq_true, decide_eq_true_eq]
  constructor
  · rintro ⟨x, hx, he⟩
    have : x = g := Fin.ext (by simpa using he)
    exact this ▸ hx
  · intro h; exact ⟨g, h, by simp⟩

theorem wateringEnds_eq {r : OpenRecord} {o c} (hr : s.rnd.record = some r) (ho : r.outcome = none) :
    wateringEnds o c s =
    { s with
      acc := { s.acc with forceEq := false, forceWater := false, gassing := 0, deficit := 0, urgency := 0 }
      clm := { s.clm with water := if s.clm.water.state = .held then
                            { s.clm.water with state := .releasing, reason := releaseReason o,
                                               yielding := false } else s.clm.water,
                          statusQueued := if s.rnd.inhibit then s.clm.statusQueued || queueOpen s.cfg.mode else
                            s.clm.statusQueued }
      rnd := { s.rnd with round := if s.rnd.inhibit then .inhibited else .float, record := none,
                          lastWater := some { outcome := o, cause := c,
                                              minutes := min 65535 ((s.now - r.openedAt) / 60000000) } }
      wat := { s.wat with groups := groupsAfterRound s.cfg.config.groupCount s.wat.plan s.wat.groups, plan := [],
                          valve := none, openPeriod := none, earlyLimit := none, flowWindow := none,
                          offTime := none, drainGrace := if s.wat.valve.isSome then some (s.now + 3000000) else
                            s.wat.drainGrace, closedPeriod := false, roundLimit := none } } := by
  unfold wateringEnds
  rw [fixOutcome_eq hr ho]
  have hclose : ∀ v : State, closeValveAtEnd v = { v with wat.valve := none,
                                                          wat.drainGrace := if v.wat.valve.isSome then
                                                            some (v.now + 3000000) else v.wat.drainGrace } := by
    intro v; unfold closeValveAtEnd
    cases hv : v.wat.valve with
    | none => 
      obtain ⟨a1,a2,a3,a4,a5,a6,a7,a8,a9,a10,a11,a12,⟨w1,w2,w3,w4,w5,w6,w7,w8,w9,w10,w11,w12,w13,w14,w15⟩,a13,a14⟩ := v
      simp only at hv; subst hv; rfl
    | some g => rfl
  rw [hclose]
  dsimp only
  rw [show State.roundOutcome _ = o from rfl, releaseClaim_water_eq]
  unfold enterInhibited
  dsimp only
  have hl : ((some { r with outcome := some o, cause := c } : Option OpenRecord).map (closeRecord s.now)).or
      s.rnd.lastWater = some { outcome := o, cause := c, minutes := min 65535 ((s.now - r.openedAt) / 60000000) } :=
      rfl
  by_cases hi : s.rnd.inhibit = true
  · simp only [hi, if_true, requestStatus_eq, hl]; rfl
  · have hi : s.rnd.inhibit = false := by simpa using hi
    simp only [hi, Bool.false_eq_true, if_false, hl]; rfl

theorem wateringEnds_spec {r : OpenRecord} {o c} (hr : s.rnd.record = some r) (ho : r.outcome = none) :
    WateringEnded o c r.openedAt s (wateringEnds o c s) := by
  rw [wateringEnds_eq hr ho]
  refine ⟨rfl, ⟨by simp [groupsAfterRound], fun h8 g => ?_⟩, fun h => ⟨(if_pos h).trans (by rw [if_pos (show s.clm.water.state = .held from h)]), fun q => ?_, fun q => ?_, fun q => ?_⟩, fun h => if_neg h, fun h => ⟨if_pos h, if_pos h⟩, fun h => ?_⟩
  · have hg : State.group { s with
      acc := { s.acc with forceEq := false, forceWater := false, gassing := 0, deficit := 0, urgency := 0 }
      clm := { s.clm with water := if s.clm.water.state = .held then
                            { s.clm.water with state := .releasing, reason := releaseReason o,
                                               yielding := false } else s.clm.water,
                          statusQueued := if s.rnd.inhibit then s.clm.statusQueued || queueOpen s.cfg.mode else
                            s.clm.statusQueued }
      rnd := { s.rnd with round := if s.rnd.inhibit then .inhibited else .float, record := none,
                          lastWater := some { outcome := o, cause := c,
                                              minutes := min 65535 ((s.now - r.openedAt) / 60000000) } }
      wat := { s.wat with groups := groupsAfterRound s.cfg.config.groupCount s.wat.plan s.wat.groups, plan := [],
                          valve := none, openPeriod := none, earlyLimit := none, flowWindow := none,
                          offTime := none, drainGrace := if s.wat.valve.isSome then some (s.now + 3000000) else
                            s.wat.drainGrace, closedPeriod := false, roundLimit := none } } g =
          if g.val < s.cfg.config.groupCount then groupAfterRound (decide (g ∈ s.wat.plan)) (s.group g) else
          s.group g := by
        rw [← any_val_eq_mem]; exact groupsAfterRound_get _ _ _ _ h8
    rw [hg]
    refine ⟨fun q => if_neg (by omega), ?_, fun q z => ?_, fun q z hd => ?_, fun q z hd => ?_⟩
    · split <;> exact ⟨rfl, rfl, rfl⟩
    · rw [if_pos q, decide_eq_true z]; exact ⟨rfl, rfl⟩
    · rw [if_pos q, decide_eq_false z]
      refine ⟨rfl, ?_⟩
      unfold groupAfterRound carriedAfter
      rcases hd with hd | hd | hd | hd <;> rw [hd] <;> rfl
    · rw [if_pos q, decide_eq_false z]
      refine ⟨hd, ?_⟩
      unfold groupAfterRound carriedAfter
      rw [hd]; rfl
  · refine (congrArg ClaimMachine.reason (if_pos h)).trans ?_; rcases q with rfl | rfl <;> rfl
  · refine (congrArg ClaimMachine.reason (if_pos h)).trans ?_; subst q; rfl
  · refine (congrArg ClaimMachine.reason (if_pos h)).trans ?_; rcases q with rfl | rfl | rfl <;> rfl
  · have h' : ¬ (s.rnd.inhibit = true) := by rw [h]; decide
    exact ⟨if_neg h', if_neg h'⟩

theorem probeWet_iff (g) : s.probeWet g = true ↔ ProbeWet s g := by
  unfold State.probeWet State.probeEnabled inputEnabled groupEnabled ProbeWet
  simp [and_assoc]

theorem startGroups_spec (openedAt) (l : List (Fin 8)) : ∀ s :
    State, (∃ r, s.rnd.record = some r ∧ r.outcome = none ∧ r.openedAt = openedAt) →
    GroupsStarted openedAt l s (startGroups l s) := by
  induction l with
  | nil =>
    intro s ⟨r, hr, ho, hop⟩
    refine ⟨[], [], rfl, by simp, by simp, fun _ => ?_⟩
    rw [← hop]
    exact wateringEnds_spec (s := { s with wat.plan := [] }) hr ho
  | cons g rest ih =>
    intro s hr
    unfold startGroups
    by_cases h : s.probeWet g = true
    · rw [if_pos h]
      obtain ⟨w, re, h1, h2, h3, h4⟩ := ih (s.withGroup g { s.group g with outcome := .alreadyFull }) hr
      refine ⟨g :: w, re, by rw [h1]; rfl, ?_, ?_, ?_⟩
      · intro x hx
        rcases List.mem_cons.1 hx with rfl | hx
        · exact (probeWet_iff _).1 h
        · exact h2 x hx
      · intro x tl hx
        exact h3 x tl hx
      · intro hx; exact h4 hx
    · rw [if_neg h]
      refine ⟨[], g :: rest, rfl, by simp, ?_, by simp⟩
      intro x tl hx
      injection hx with h1 h2; subst h1 h2
      exact ⟨fun z => h ((probeWet_iff _).2 z), rfl⟩

theorem mapIdx_group (f : Nat → GroupRecord → GroupRecord) (l : List GroupRecord) (h8 : l.length = 8) (g : Fin 8) :
    (l.mapIdx f).getD g.val resetGroup = f g.val (l.getD g.val resetGroup) := by
  have hg : g.val < l.length := by omega
  rw [List.getD_eq_getElem?_getD, List.getElem?_mapIdx, List.getD_eq_getElem?_getD, List.getElem?_eq_getElem hg]
  rfl

theorem mem_insertGroup (target : Fin 8 → Nat) (g x : Fin 8) : ∀ l, x ∈ insertGroup target g l ↔ x = g ∨ x ∈ l := by
  intro l
  induction l with
  | nil => simp [insertGroup]
  | cons h tl ih =>
    unfold insertGroup
    split
    · simp
    · simp [ih]; tauto

theorem insertGroup_sorted (target : Fin 8 → Nat) (g : Fin 8) : ∀ l : List (Fin 8), (∀ h ∈ l, g.val < h.val) →
    (l.Pairwise fun g h => target h < target g ∨ (target g = target h ∧ g.val < h.val)) →
    (insertGroup target g l).Pairwise fun g h => target h < target g ∨ (target g = target h ∧ g.val < h.val) := by
  intro l
  induction l with
  | nil => intro _ _; simp [insertGroup]
  | cons h tl ih =>
    intro hm hp
    rw [List.pairwise_cons] at hp
    unfold insertGroup
    split
    · next hle =>
      rw [List.pairwise_cons]
      refine ⟨?_, by rw [List.pairwise_cons]; exact hp⟩
      intro x hx
      have hgx := hm x hx
      rcases List.mem_cons.1 hx with rfl | hx
      · omega
      · rcases hp.1 x hx with q | q <;> omega
    · next hle =>
      rw [List.pairwise_cons]
      refine ⟨?_, ih (fun y hy => hm y (List.mem_cons_of_mem _ hy)) hp.2⟩
      intro x hx
      rw [mem_insertGroup] at hx
      rcases hx with rfl | hx
      · left; omega
      · exact hp.1 x hx

theorem foldr_insertGroup_sorted (target : Fin 8 → Nat) : ∀ l : List (Fin 8), l.Pairwise (fun g h => g.val < h.val) →
    ((l.foldr (insertGroup target) []).Pairwise fun g h => target h < target g ∨
        (target g = target h ∧ g.val < h.val)) ∧
    ∀ x, x ∈ l.foldr (insertGroup target) [] ↔ x ∈ l := by
  intro l
  induction l with
  | nil => intro _; simp
  | cons h tl ih =>
    intro hp
    rw [List.pairwise_cons] at hp
    obtain ⟨h1, h2⟩ := ih hp.2
    simp only [List.foldr_cons]
    refine ⟨insertGroup_sorted _ _ _ (fun x hx => hp.1 x ((h2 x).1 hx)) h1, fun x => ?_⟩
    rw [mem_insertGroup, h2]; simp

theorem planList_spec {v : State} : PlanMade v (planList v.cfg.config v.wat.groups) := by
  have h := foldr_insertGroup_sorted (fun g => (v.wat.groups.getD g.val resetGroup).target)
      ((List.finRange 8).filter fun g => groupEnabled v.cfg.config g && decide (1000 * v.cfg.config.vFlow ≤ (v.wat.groups.getD g.val resetGroup).target)) (by
    apply List.Pairwise.filter
    decide)
  constructor
  · intro g
    refine (h.2 g).trans ?_
    simp [groupEnabled, State.group]
  · exact h.1

theorem probeEnabled_false_iff (g) : s.probeEnabled g = false ↔ ProbeDisabled s g := by
  unfold State.probeEnabled inputEnabled groupEnabled ProbeDisabled
  dsimp only
  by_cases hg : g.val < s.cfg.config.groupCount
  · rw [decide_eq_true hg, Bool.true_and]; constructor
    · exact .inr
    · rintro (h | h) <;> [omega; exact h]
  · rw [decide_eq_false hg, Bool.false_and]; exact ⟨fun _ => .inl (by omega), fun _ => rfl⟩

theorem probeWet_false_iff (g) : s.probeWet g = false ↔ ¬ ProbeWet s g := by rw [← probeWet_iff]; simp

theorem checkClosedPeriod_spec {r : OpenRecord} (hr : s.rnd.record = some r) (ho : r.outcome = none) :
    ClosedPeriodTested r.openedAt s (checkClosedPeriod s) := by
  constructor
  · intro h
    unfold checkClosedPeriod
    rw [if_neg]
    rcases h with h | h | h | h
    · simp [h]
    · cases q : s.wat.offTime <;> simp_all
    · cases q : s.wat.drainGrace <;> simp_all
    · cases q : s.wat.flowWindow <;> simp_all
  · intro h1 h2 h3 h4 g rest hp
    have hst : ∀ o, GroupsStarted r.openedAt rest (s.groupDecided g o)
        (startGroups rest (s.withGroup g { s.group g with outcome := o })) :=
      fun o => startGroups_spec _ rest (s.groupDecided g o) ⟨r, hr, ho, rfl⟩
    have hx : checkClosedPeriod s =
        (decideGroup s g).elim (openPulse g s)
          fun o => startGroups rest (s.withGroup g { s.group g with outcome := o }) := by
      unfold checkClosedPeriod
      rw [if_pos (by simp [h1, h2, h3, h4])]
      unfold closedPeriodEnds
      rw [hp]
      dsimp only
      cases decideGroup s g <;> rfl
    rw [hx]
    refine ⟨fun w => ?_, fun w c => ?_, fun c d ta => ?_, fun w c d => ?_⟩
    · have : decideGroup s g = some .full := by unfold decideGroup; rw [if_pos ((probeWet_iff g).2 w)]
      rw [this]; exact hst _
    · have : decideGroup s g = some .capped := by unfold decideGroup; dsimp only; rw [if_neg (by rw [probeWet_iff]; exact w), if_pos c]
      rw [this]; exact hst _
    · have hd := (probeEnabled_false_iff g).2 d
      have : decideGroup s g = some .dosed := by
        unfold decideGroup; dsimp only
        rw [if_neg (by unfold State.probeWet; rw [hd]; simp), if_neg (by omega), if_pos (by rw [hd]; simpa using ta)]
      rw [this]; exact hst _
    · have : decideGroup s g = none := by
        unfold decideGroup; dsimp only
        rw [if_neg (by rw [probeWet_iff]; exact w), if_neg (by omega), if_neg]
        rw [Bool.and_eq_true, Bool.not_eq_true', probeEnabled_false_iff, decide_eq_true_eq]
        rintro ⟨a, b⟩
        rcases d with d | d
        · exact d a
        · omega
      rw [this]; rfl

theorem closeIfReached_eq {v : State} (g) (reached : Prop) [Decidable reached]
    (h : reached ↔ (v.group g).cap ≤ (v.group g).dosed * 1000 ∨
    (ProbeDisabled v g ∧ (v.group g).target ≤ (v.group g).dosed * 1000)) :
    closeIfReached g v = if v.wat.valve.isSome = true ∧ reached then v.pulseClosed else v := by
  unfold closeIfReached
  have : (v.wat.valve.isSome && doseReached v g) = true ↔ (v.wat.valve.isSome = true ∧ reached) := by
    unfold doseReached
    rw [h]
    simp [← probeEnabled_false_iff]
  by_cases hq : v.wat.valve.isSome = true ∧ reached
  · rw [if_pos hq, if_pos (this.2 hq)]; rfl
  · rw [if_neg hq, if_neg (fun z => hq (this.1 z))]

/-! ### Yielding, and leaving the line -/

theorem rndYield_spec (x : State) : 
    (x.rnd.round = .transferBack ∨ x.rnd.round = .stuck → rndYield x = x) ∧
    (x.rnd.round = .transferOut → rndYield x = { x with rnd.deferred := x.rnd.deferred.or (some .yield) }) ∧
    (∀ r, x.rnd.record = some r → r.outcome = none →
      (x.rnd.round = .prepare → EqualiseEnded .yielded none r.openedAt { x with rnd.chargerWait := none } (rndYield x)) ∧
      (x.rnd.round = .equalising ∨ x.rnd.round = .soak → rndYield x = x.sentBack r .yielded none) ∧
      (x.rnd.round = .watering → WateringEnded .yielded none r.openedAt x (rndYield x))) := by
  refine ⟨fun h => ?_, fun h => ?_, fun r hr ho => ⟨fun h => ?_, fun h => ?_, fun h => ?_⟩⟩
  · unfold rndYield; rcases h with h | h <;> rw [h]
  · unfold rndYield; rw [h]; rfl
  · unfold rndYield; rw [h]; exact prepareEnds_spec hr ho _ _
  · have : rndYield x = goBack .yielded none x := by unfold rndYield; rcases h with h | h <;> rw [h]
    rw [this]; exact goBack_eq hr ho _ _
  · unfold rndYield; rw [h]; exact wateringEnds_spec hr ho

theorem roundLeavesLine_spec (cause) : RoundLosesLine cause s (roundLeavesLine cause s) := by
  refine ⟨fun h => ?_, fun h => ?_, fun h r hr ho => ?_, fun h r hr ho => ?_, fun h r hr ho => ?_,
      fun h => ⟨fun q => ?_, fun q => ?_⟩, fun h r hr ho => ?_⟩
  · unfold roundLeavesLine; rcases h with h | h | h | h <;> rw [h]
  · unfold roundLeavesLine; rcases h with h | h | h | h <;> rw [h]
  · unfold roundLeavesLine; rw [h]; exact prepareEnds_spec hr ho _ _
  · unfold roundLeavesLine; rw [h]; dsimp only
    have e := enterTransferBack_fixOutcome_eq (s := { s with rnd.deferred := none }) hr ho .aborted (some cause)
    rw [e]
    exact commandFloatWithCheck_spec (r := { r with outcome := some .aborted, cause := some cause }) rfl rfl rfl false
  · have e : roundLeavesLine cause s = commandFloatWithWindow
      (enterTransferBack (fixOutcome .aborted (some cause) s)) := by
      unfold roundLeavesLine; rcases h with h | h <;> rw [h]
    rw [e, enterTransferBack_fixOutcome_eq hr ho]; exact commandFloatWithWindow_spec
  · unfold roundLeavesLine; rw [h]; dsimp only; rw [if_pos q]; exact commandFloatWithWindow_spec
  · unfold roundLeavesLine; rw [h]; dsimp only; rw [if_neg (by rw [q]; simp)]
  · unfold roundLeavesLine; rw [h]; exact wateringEnds_spec hr ho

theorem leaveLine_spec (mode cause) : LeavesLine mode cause s (leaveLine mode cause s) :=
    ⟨_, roundLeavesLine_spec cause, by
  unfold leaveLine dropClaims ClaimMachine.drop
  dsimp only
  have : ∀ q : State, (roundLeavesLine cause q).now = q.now := fun q => (frame_roundLeavesLine cause q).now
  rw [this]
  rfl⟩

theorem countRetry_spec (h : s.lin.retry ≤ 7) : FailureCounted s (countRetry s) := by
  refine ⟨fun q => ?_, fun q z => ?_, fun q z => ?_⟩
  · unfold countRetry; rw [if_pos q]; rfl
  · unfold countRetry; rw [if_neg (by simp [q]), if_neg (by omega)]
  · unfold countRetry; rw [if_neg (by simp [q]), if_pos (by omega)]; exact leaveLine_spec _ _

end Sys2Proof.Machine
end

