-- ==== Sys2Proof/Laws/Line.lean ====
section
/-! SUPPORT. What the line and the field inputs hand on: a frame heard, a directive, an edge of a level input; the bits
of the line, the idle timer and the sample buffer. -/

namespace Sys2Proof.Machine

variable {s t u : State}

/-! ### Bits of the line and of the scan link -/

/-- Bit `k` of a frame is bit `k % 10` of its byte `k / 10` (R74). -/
theorem frameBits_getElem? (f : List Byte) (k : Nat) :
    (frameBits f)[k]? = (f[k / 10]?).bind fun b => (byteBits b)[k % 10]? := by
  induction f generalizing k with
  | nil => simp [frameBits]
  | cons b f ih =>
    rw [show frameBits (b :: f) = byteBits b ++ frameBits f from rfl, List.getElem?_append,
      show (byteBits b).length = 10 from rfl]
    split
    · rw [show k / 10 = 0 by omega, show k % 10 = k by omega]
      rfl
    · rw [ih, show k / 10 = (k - 10) / 10 + 1 by omega, show k % 10 = (k - 10) % 10 by omega]
      rfl

/-- A loss can come exactly at a recessive data bit of the header (R84). -/
theorem Attempt.canLose_iff (a : Attempt) (now : Nat) :
    a.canLose now = true ↔ a.sentBit now = some true ∧ 1 ≤ a.bitIndex now ∧ a.bitIndex now ≤ 8 := by
  simp [Attempt.canLose, Attempt.inHeader, and_comm]

/-- A bit error can come exactly at a bit of the frame where no loss can (R86). -/
theorem Attempt.canFail_iff (a : Attempt) (now : Nat) :
    a.canFail now = true ↔ a.sentBit now ≠ none ∧ a.canLose now = false := by
  unfold Attempt.canFail Attempt.canLose
  cases a.sentBit now with
  | none => simp
  | some b => cases b <;> simp

/-- The idle timer stops at 12 (R75). -/
theorem idleTimer_le (s : State) : s.idleTimer ≤ 12 := by
  unfold State.idleTimer IdleTimer.value
  split
  · omega
  · split
    · omega
    · split
      · omega
      · omega
      · split <;> omega

/-- Outside an own attempt the line is idle exactly after STARTING and a LINE_IDLE, at its time or while the line has
stayed recessive since (R75, R82, R93). -/
theorem idleTimer_eq_twelve (ha : s.lin.attempt = none) :
    s.idleTimer = 12 ↔
      s.cfg.mode ≠ .starting ∧
        ∃ reached, s.lin.idle = .full reached ∧ (s.now ≤ reached ∨ 12 ≤ Config.lineRun s.resets s.now) := by
  unfold State.idleTimer IdleTimer.value
  rw [ha]
  by_cases hm : s.cfg.mode = .starting
  · simp [hm]
  · rw [if_neg hm]
    cases hi : s.lin.idle with
    | counting since => simp [hm]; omega
    | tail since heard => simp [hm]; omega
    | full reached =>
        by_cases h : s.now ≤ reached
        · simp [hm, h]
        · simp [hm, h]

/-- The idle can come once 12 bit times have passed since the timer was last known at 0 (R75). -/
theorem IdleTimer.canFill_iff (i : IdleTimer) (now : Nat) :
    i.canFill now = true ↔ ∀ since, i.since = some since → since + idleUs ≤ now := by
  simp [IdleTimer.canFill, Option.all_eq_true]

/-- After bits heard the timer shows the recessive bits they end in, up to 11 (R75). -/
theorem idleAfter_value (resets : Nat) (bits : List Bool) (now : Nat) (h : bitsUs (recessiveTail bits) ≤ now) :
    (idleAfter bits now).value resets now = min 11 (recessiveTail bits) := by
  have e : bitTimes (now - bitsUs (recessiveTail bits)) now = bitsUs (recessiveTail bits) * 19200 / 1000000 := by
    unfold bitTimes
    congr 2
    omega
  simp only [idleAfter, IdleTimer.value, le_refl, if_true, e]
  unfold bitsUs
  omega

/-- A start bit that was none takes the assembler from FRAME to READY and from no other state (R74, R76). -/
theorem Assembler.withoutStartBit_eq (b : Assembler) : b.withoutStartBit = if b = .frame then .ready else b := by
  cases b <;> rfl

/-- A bit error past the header's start bit leaves the assembler as it is (R76, R86). -/
theorem failAttempt_later {a : Attempt} (h : 1 ≤ a.bitIndex s.now) : failAttempt a s = endAttempt s := by
  unfold failAttempt
  rw [if_neg (by omega)]
  rfl

/-- The timer shows 0 at the moment it is set to 0, whatever the line does (R75). -/
theorem idleTimer_zero (ha : s.lin.attempt = none) (hi : s.lin.idle = .counting s.now) : s.idleTimer = 0 := by
  unfold State.idleTimer IdleTimer.value
  rw [ha, hi]
  simp [bitTimes]

/-- Bits that end in a byte have been recessive since the last dominant bit of that byte (R74, R75). -/
theorem recessiveTail_of_end {b : Byte} {n : Nat} (h : RecessiveEnd b n) (pre : List Bool) :
    recessiveTail (pre ++ byteBits b) = n := by
  obtain ⟨k, rfl, hk, h1, h2⟩ := h
  unfold recessiveTail
  rw [List.reverse_append]
  have e : ∀ j, j < k → b.getLsbD j = true := h1
  have e0 := e 0
  have e1 := e 1
  interval_cases k <;> simp_all [byteBits, List.takeWhile, Nat.forall_lt_succ_right]

/-- In a scan each of the 30 places holds its word once it has arrived (R2). -/
theorem wordsStored_getElem? {ends : Nat} (he : s.scn.scanEnds = some ends) (now : Nat) {i : Nat} (hi : i < 30) :
    (s.wordsStored now)[i]? =
      some (if wordArrived ends now i then s.linkWord ends i else s.scn.buffer.getD i 0#17) := by
  simp only [State.wordsStored, he, List.getElem?_map, List.getElem?_range hi, Option.map_some]

/-- With no scan in progress no word is stored (R2). -/
theorem wordsStored_between (he : s.scn.scanEnds = none) (now : Nat) : s.wordsStored now = s.scn.buffer := by
  simp only [State.wordsStored, he]

/-- With no scan in progress time does nothing but pass. -/
theorem atTime_between (he : s.scn.scanEnds = none) (now : Nat) : s.atTime now = { s with now := now } := by
  unfold State.atTime
  rw [wordsStored_between he]

/-! ### Frames and directives -/

theorem hearFrame_eq {f n} (a) (reader : Notice → State → State) (H : Hears s f n) :
    hearFrame f reader (s.elapse a) = reader n (s.frameHeard a) := by
  unfold hearFrame
  rw [if_neg (by exact H.mode), if_neg (by exact H.assembler)]
  dsimp only
  rw [show decodeNotice (frameEnds (s.elapse a)).cfg.config.nSite f =
      decodeNotice s.cfg.config.nSite f from rfl, H.valid]
  dsimp only
  rw [if_neg (by exact H.other)]
  rfl

theorem directive_heard {f : List Byte} {dest m : Nat} {code : Byte} (a) (d : Directive) (act : Nat → State → State)
    (H : Hears s f (.directive dest code m)) (hd : dest = 0 ∨ dest = s.address) :
    hearFrame f (readDirective d act) (s.elapse a) = if code =
        directiveCode d then act m (s.frameHeard a) else s.frameHeard a := by
  rw [hearFrame_eq a _ H]
  unfold readDirective
  dsimp only
  have : directedHere dest (s.frameHeard a) = true := by
    unfold directedHere
    rw [Bool.or_eq_true, decide_eq_true_eq, decide_eq_true_eq]; exact hd
  rw [this]
  simp

theorem directive_elsewhere {f : List Byte} {dest m : Nat} {code : Byte} (a) (d : Directive)
    (act : Nat → State → State) (H : Hears s f (.directive dest code m)) (hd : ¬ (dest = 0 ∨ dest = s.address)) :
    hearFrame f (readDirective d act) (s.elapse a) = s.frameHeard a := by
  rw [hearFrame_eq a _ H]
  unfold readDirective
  dsimp only
  rw [if_neg]
  rintro ⟨-, h⟩
  unfold directedHere at h
  rw [Bool.or_eq_true, decide_eq_true_eq, decide_eq_true_eq] at h; exact hd h

theorem directive_other_code {f : List Byte} {dest m : Nat} {code : Byte} (a) (d : Directive)
    (act : Nat → State → State) (H : Hears s f (.directive dest code m)) (hc : code ≠ directiveCode d) :
    hearFrame f (readDirective d act) (s.elapse a) = s.frameHeard a := by
  rw [hearFrame_eq a _ H]
  unfold readDirective
  dsimp only
  rw [if_neg]
  rintro ⟨h, -⟩; exact hc h

theorem panelActs_of_mode {m : NodeMode} (h1 : m ≠ .starting) (h2 : m ≠ .silent) : panelActs m = true := by cases m <;> simp_all [panelActs]

/-! ### Edges -/

theorem stabilityTimerExpiry_of_edge {i d level} (h : EdgeComes s i d level) : exec (.stabilityTimerExpiry i) s =
    .next (levelEdge i level (s.settled i d level)) := by
  simp only [exec, execStabilityTimerExpiry, h.timer]
  have hr : rawActive (s.reach d).cfg.config i ((s.reach d).fld.line i) = level := h.raw
  unfold levelStands
  dsimp only
  rw [hr, if_neg]
  · rfl
  · show ¬ level = (s.fld.line i).active
    rw [h.differs]; cases level <;> simp

end Sys2Proof.Machine
end

