-- ==== Sys2Proof/Laws/Scan.lean ====
section
/-! SUPPORT. What the scan, the measurements and the delivery of a sample set do, said once. -/

namespace Sys2Proof.Machine

variable {s t u : State}

/-! ### Channels and words -/

theorem stepInvalid_spec (c : Channel) : c.StepsInvalid c.stepInvalid := by
  unfold Channel.stepInvalid
  cases hf : c.freshness with
  | fresh => constructor <;> simp [hf]
  | held => 
    dsimp only
    split
    · constructor <;> simp [hf]; omega
    · constructor <;> simp [hf]; omega
  | stale => constructor <;> simp [hf]

theorem stepValid_spec (c : Channel) (v m) : c.StepsValid v m (c.stepValid v m) := by
  unfold Channel.stepValid
  cases hf : c.freshness with
  | fresh => constructor <;> simp [hf]
  | held => constructor <;> simp [hf]
  | stale => 
    dsimp only
    split
    · constructor <;> simp [hf]; omega
    · constructor <;> simp [hf]; omega

theorem goodParity_iff (w : ScanWord) : goodParity w = true ↔ OddOnes w := by
  unfold goodParity OddOnes
  have : ∀ (l : List Nat) (b : Bool), (l.foldl (fun p i => xor p (w.getLsbD i)) b = true) ↔
      ((if b then 1 else 0) + l.countP (fun i => w.getLsbD i)) % 2 = 1 := by
    intro l
    induction l with
    | nil => intro b; cases b <;> simp
    | cons a l ih =>
      intro b
      rw [List.foldl_cons, ih, List.countP_cons]
      cases b <;> cases w.getLsbD a <;> simp <;> omega
  rw [this]; simp

theorem countStale_eq (l : List Channel) (a b c d : Channel) : countStale l a b c d =
    (l ++ [a,b,c,d]).countP (fun c => c.freshness = .stale) := by
  have h1 : ∀ x : Channel, x.staleOne = if x.freshness = .stale then 1 else 0 := by
    intro x; unfold Channel.staleOne Channel.usable; cases x.freshness <;> rfl
  unfold countStale
  rw [List.countP_append]
  have : (l.map Channel.staleOne).sum = l.countP (fun c => c.freshness = .stale) := by
    induction l with
    | nil => rfl
    | cons a l ih => rw [List.map_cons, List.sum_cons, List.countP_cons, ih, h1]; simp; omega
  rw [this]
  simp only [List.countP_cons, List.countP_nil, h1, decide_eq_true_eq]
  omega

theorem wordData_eq (w : ScanWord) : wordData w = w.extractLsb' 1 16 := rfl

theorem headerMarker_eq (w : ScanWord) : headerMarker w = w.extractLsb' 5 12 := by
  unfold headerMarker wordData; ext i hi; simp [BitVec.getElem_extractLsb', BitVec.getLsbD_extractLsb']; rw [show 1 + (4 + i) = 5 + i by omega]; simp; omega

theorem headerSequence_eq (w : ScanWord) : headerSequence w = w.extractLsb' 1 4 := by
  unfold headerSequence wordData; ext i hi; simp [BitVec.getElem_extractLsb', BitVec.getLsbD_extractLsb']; omega

theorem frontEndFault_eq (w : ScanWord) : frontEndFault w = w.getLsbD 1 := by
  unfold frontEndFault wordData; simp

theorem goodHeader_iff (w : ScanWord) : (goodParity w && headerMarker w == 0xA5C#12) = true ↔
    OddOnes w ∧ w.extractLsb' 5 12 = 0xA5C#12 := by
  rw [Bool.and_eq_true, goodParity_iff, beq_iff_eq, headerMarker_eq]

theorem scanExamined_iff (w : List ScanWord) : scanExamined s.scn.expected w = true ↔ Examined s w := by
  unfold scanExamined classifyHeader
  have hw : ∀ i, scanWordAt w i = w.getD i 0#17 := fun _ => rfl
  simp only [hw]
  constructor
  · intro h
    rw [Bool.and_eq_true, Bool.and_eq_true] at h
    obtain ⟨⟨h1, h2⟩, h3⟩ := h
    have hs : OddOnes (w.getD 29 0#17) ∧ (w.getD 29 0#17).getLsbD 1 = false := by
      refine ⟨(goodParity_iff _).1 h2, ?_⟩; rw [← frontEndFault_eq]; simpa using h3
    split at h1
    · next hg =>
      refine ⟨(goodHeader_iff _).1 hg, ?_, hs⟩
      intro e he
      rw [he] at h1
      dsimp only at h1
      split at h1
      · next q => rw [← headerSequence_eq]; exact q
      · simp at h1
    · simp at h1
  · rintro ⟨h1, h2, h3⟩
    rw [Bool.and_eq_true, Bool.and_eq_true]
    refine ⟨⟨?_, (goodParity_iff _).2 h3.1⟩, by rw [frontEndFault_eq, h3.2]; rfl⟩
    rw [if_pos ((goodHeader_iff _).2 h1)]
    cases he : s.scn.expected with
    | none => rfl
    | some e => dsimp only; rw [if_pos (by rw [headerSequence_eq]; exact h2 e he)]; rfl

theorem stepBlocs_get {ex w i} {l : List Channel} {c c' : Channel} (h : l[i]? = some c)
    (h' : (stepBlocs ex w l)[i]? = some c') : c' = c.step (channelReading ex false 0 4000 w (i + 1)) := by
  unfold stepBlocs at h'
  rw [List.getElem?_mapIdx, h] at h'
  simpa using h'.symm

theorem channelReading_spec (c : Channel) (sg lo hi) (w : List ScanWord) (i) (hlh : lo ≤ hi) :
    Channel.StepsWord (w.getD i 0#17) lo hi (if sg then ((w.getD i 0#17).extractLsb' 1 16).toInt else
    (((w.getD i 0#17).extractLsb' 1 16).toNat : Int)) c (c.step (channelReading true sg lo hi w i)) := by
  have e : channelReading true sg lo hi w i = readChannelWord sg lo hi (w.getD i 0#17) := rfl
  rw [e]
  generalize w.getD i 0#17 = x
  unfold readChannelWord
  rw [wordData_eq]
  generalize (if sg = true then (BitVec.extractLsb' 1 16 x).toInt else
      (((BitVec.extractLsb' 1 16 x).toNat : Nat) : Int)) = n
  by_cases hp : goodParity x = true
  · rw [if_pos hp]
    have ho := (goodParity_iff x).1 hp
    refine ⟨fun h => absurd ho h, fun _ h => ?_, fun _ h => ?_, fun _ h1 h2 => ?_⟩
    · have : acceptValue lo hi n = (lo, true) := by unfold acceptValue; rw [if_pos h]
      rw [this]; exact stepValid_spec _ _ _
    · have : acceptValue lo hi n = (hi, true) := by unfold acceptValue; rw [if_neg (by omega), if_pos h]
      rw [this]; exact stepValid_spec _ _ _
    · have : acceptValue lo hi n = (n, false) := by unfold acceptValue; rw [if_neg (by omega), if_neg (by omega)]
      rw [this]; exact stepValid_spec _ _ _
  · rw [if_neg hp]
    have ho : ¬ OddOnes x := fun q => hp ((goodParity_iff x).2 q)
    exact ⟨fun _ => stepInvalid_spec c, fun h => absurd h ho, fun h => absurd h ho, fun h => absurd h ho⟩

/-! ### Mean, spread and monitors -/

theorem someOutside_iff (el : Channel → Bool) (f : BlocMonitor → Bool) (bl : List Channel) (ms : List BlocMonitor) :
    someOutside el f bl ms = true ↔ ∃ (i : Nat) (c : Channel) (m : BlocMonitor), bl[i]? = some c ∧ ms[i]? =
    some m ∧ el c = true ∧ f m = true := by
  unfold someOutside
  rw [List.any_eq_true]
  constructor
  · rintro ⟨⟨c, m⟩, hm, hp⟩
    obtain ⟨i, hi⟩ := List.mem_iff_getElem?.1 hm
    rw [List.getElem?_zip_eq_some] at hi
    rw [Bool.and_eq_true] at hp
    exact ⟨i, c, m, hi.1, hi.2, hp.1, hp.2⟩
  · rintro ⟨i, c, m, h1, h2, h3, h4⟩
    refine ⟨(c, m), List.mem_iff_getElem?.2 ⟨i, ?_⟩, by simp [h3, h4]⟩
    rw [List.getElem?_zip_eq_some]; exact ⟨h1, h2⟩

theorem foldl_max (l : List Nat) : ∀ a, (l.foldl max a = a ∨ l.foldl max a ∈ l) ∧ a ≤ l.foldl max a ∧
    ∀ v ∈ l, v ≤ l.foldl max a := by
  induction l with
  | nil => intro a; simp
  | cons b l ih =>
    intro a
    obtain ⟨h1, h2, h3⟩ := ih (max a b)
    rw [List.foldl_cons]
    refine ⟨?_, by omega, fun v hv => ?_⟩
    · rcases h1 with h1 | h1
      · rw [h1]; rcases Nat.le_total a b with q | q
        · right; simp [Nat.max_eq_right q]
        · left; exact Nat.max_eq_left q
      · right; simp [h1]
    · rcases List.mem_cons.1 hv with rfl | hv
      · omega
      · exact h3 v hv

theorem foldl_min (l : List Nat) : ∀ a, (l.foldl min a = a ∨ l.foldl min a ∈ l) ∧ l.foldl min a ≤ a ∧
    ∀ v ∈ l, l.foldl min a ≤ v := by
  induction l with
  | nil => intro a; simp
  | cons b l ih =>
    intro a
    obtain ⟨h1, h2, h3⟩ := ih (min a b)
    rw [List.foldl_cons]
    refine ⟨?_, by omega, fun v hv => ?_⟩
    · rcases h1 with h1 | h1
      · rw [h1]; rcases Nat.le_total a b with q | q
        · left; exact Nat.min_eq_left q
        · right; simp [Nat.min_eq_right q]
      · right; simp [h1]
    · rcases List.mem_cons.1 hv with rfl | hv
      · omega
      · exact h3 v hv

theorem spreadOf_spec {l : List Nat} (h : 2 ≤ l.length) :
    ∃ lo hi, lo ∈ l ∧ hi ∈ l ∧ (∀ v ∈ l, lo ≤ v ∧ v ≤ hi) ∧ spreadOf l = some (hi - lo) := by
  cases l with
  | nil => simp at h
  | cons a l =>
    refine ⟨(a :: l).foldl min ((a :: l).headD 0),
        (a :: l).foldl max 0, ?_, ?_, fun v hv => ⟨(foldl_min _ _).2.2 v hv, (foldl_max _ _).2.2 v hv⟩, ?_⟩
    · rcases (foldl_min (a :: l) ((a :: l).headD 0)).1 with q | q
      · rw [q]; simp
      · exact q
    · rcases (foldl_max (a :: l) 0).1 with q | q
      · have := (foldl_max (a :: l) 0).2.2 a (by simp)
        rw [q] at this ⊢
        have : a = 0 := by omega
        simp [this]
      · exact q
    · unfold spreadOf; rw [if_pos h]

theorem participatingValues_eq (bl : List Channel) :
    (bl.filter (fun c : Channel => c.freshness ≠ .stale)).map (fun c : Channel => c.value.toNat) =
    participatingValues bl := by
  unfold participatingValues; congr 1

theorem distance_eq_abs (v m : Nat) : (distance v m : Int) = |(v : Int) - m| := by
  unfold distance; split
  · rw [abs_of_nonneg (by omega)]; omega
  · rw [abs_of_neg (by omega)]; omega

theorem crossingEvent_iff (sel b a) : crossingEvent sel b a = true ↔ EventRaised sel b a := by
  cases sel <;> cases b <;> cases a <;> simp [crossingEvent, EventRaised]

/-! ### The measurements of a sample set -/

theorem integrate_force (a : Acc) (cfg c) : (a.integrate cfg c).forceEq =
    a.forceEq ∧ (a.integrate cfg c).forceWater = a.forceWater := by
  unfold Acc.integrate Acc.bookDischarge Acc.bookCharge
  dsimp only
  split
  · split
    · exact ⟨rfl, rfl⟩
    · split
      · exact ⟨rfl, rfl⟩
      · split
        · split <;> exact ⟨rfl, rfl⟩
        · exact ⟨rfl, rfl⟩
  · exact ⟨rfl, rfl⟩

theorem stepDetector_force (x : Acc) (cfg c) : (x.stepDetector cfg c).forceEq =
    x.forceEq ∧ (x.stepDetector cfg c).forceWater = x.forceWater := by
  unfold Acc.stepDetector; split <;> (split <;> [(split <;> exact ⟨rfl, rfl⟩); exact ⟨rfl, rfl⟩])

theorem stepFull_force (x : Acc) (cfg c r) : (x.stepFull cfg c r).forceEq =
    x.forceEq ∧ (x.stepFull cfg c r).forceWater = x.forceWater := by
  unfold Acc.stepFull; split <;> [exact ⟨rfl, rfl⟩; (split <;> exact ⟨rfl, rfl⟩)]

theorem acc_sampleSet_force (a : Acc) (cfg c r m) : (a.sampleSet cfg c r m).forceEq =
    a.forceEq ∧ (a.sampleSet cfg c r m).forceWater = a.forceWater := by
  have h1 := integrate_force a cfg c
  have h2 := stepFull_force (a.integrate cfg c) cfg c r
  have h3 := stepDetector_force ((a.integrate cfg c).stepFull cfg c r) cfg c
  have e : (a.sampleSet cfg c r m).forceEq = (((a.integrate cfg c).stepFull cfg c r).stepDetector cfg c).forceEq :=
      rfl
  have e' : (a.sampleSet cfg c r m).forceWater = (((a.integrate cfg c).stepFull cfg c r).stepDetector cfg c).forceWater := rfl
  rw [e, e', h3.1, h3.2, h2.1, h2.2]; exact h1

theorem takeMeasurements_scn (w) : (takeMeasurements w s).scn = s.scn.complete w := by unfold takeMeasurements requestStatus; dsimp only; split <;> [split <;> rfl; rfl]

theorem takeMeasurements_mon (w) : (takeMeasurements w s).mon = s.mon.sampleSet s.cfg.config (s.scn.complete w) s.rnd.round := by unfold takeMeasurements requestStatus; dsimp only; split <;> [split <;> rfl; rfl]

theorem takeMeasurements_acc (w) : (takeMeasurements w s).acc = s.acc.sampleSet s.cfg.config (s.scn.complete w).current s.rnd.round (s.mon.sampleSet s.cfg.config (s.scn.complete w) s.rnd.round) := by unfold takeMeasurements requestStatus; dsimp only; split <;> [split <;> rfl; rfl]

theorem takeMeasurements_form (w) : ∃ q, takeMeasurements w s = { s with scn := (takeMeasurements w s).scn, mon := (takeMeasurements w s).mon, acc := (takeMeasurements w s).acc, clm.statusQueued := q } := by 
  unfold takeMeasurements requestStatus; dsimp only
  split
  · split
    · exact ⟨true, rfl⟩
    · exact ⟨s.clm.statusQueued, rfl⟩
  · exact ⟨s.clm.statusQueued, rfl⟩

/-- The state of a sample set with its measurements, its temperature and its rest timer taken in (R14). -/
def conditioned (w : List ScanWord) (s : State) : State := takeConditions s (takeMeasurements w s)

theorem conditioned_scn (w) : (conditioned w s).scn = s.scn.complete w := takeMeasurements_scn w

theorem conditioned_mon (w) : (conditioned w s).mon =
    s.mon.sampleSet s.cfg.config (s.scn.complete w) s.rnd.round := takeMeasurements_mon w

theorem conditioned_acc (w) : (conditioned w s).acc =
    s.acc.sampleSet s.cfg.config (s.scn.complete w).current s.rnd.round
    (s.mon.sampleSet s.cfg.config (s.scn.complete w) s.rnd.round) := takeMeasurements_acc w

theorem takeMeasurements_rnd (w) : (takeMeasurements w s).rnd = s.rnd := by obtain ⟨q, h⟩ := takeMeasurements_form (s := s) w; rw [h]

theorem conditioned_form (w) : ∃ q, conditioned w s =
    { s with scn := (conditioned w s).scn, mon := (conditioned w s).mon, acc := (conditioned w s).acc,
             clm.statusQueued := q, rnd.temperature := stringTemperature (s.scn.complete w).pilot (s.scn.complete w).ambient, rnd.restTimer := stepRestTimer s.cfg.config s.rnd.round (s.acc.recognises s.cfg.config (s.scn.complete w).current s.rnd.round) s.rnd.restTimer } := by
  obtain ⟨q, h⟩ := takeMeasurements_form (s := s) w
  refine ⟨q, ?_⟩
  have hs := takeMeasurements_scn (s := s) w
  unfold conditioned takeConditions
  rw [← hs]
  dsimp only
  generalize takeMeasurements w s = m at *
  clear hs
  obtain ⟨a,b,c,c',d,e,f,g,i,j,k,l,o,p,n⟩ := m
  simp only [State.mk.injEq, true_and] at h
  obtain ⟨rfl,rfl,rfl,rfl,rfl,rfl,rfl,rfl,rfl,rfl,rfl,rfl⟩ := h
  rfl

/-! ### Monitor events (R48) -/

theorem monitorEvent_iff (c : Configuration) (m m' : BlocMonitor) :
    monitorEvent c m m' = true ↔ MonitorCrossed c m m' := by
  simp only [monitorEvent, MonitorCrossed, Bool.or_eq_true, crossingEvent_iff, or_assoc]

theorem monitorEvents_iff (c : Configuration) (blocs : List Channel) (ms : List BlocMonitor) :
    monitorEvents c blocs ms = true ↔
      ∃ (i : Nat) (m m' : BlocMonitor), ms[i]? = some m ∧ (stepAllMonitors c blocs ms)[i]? = some m' ∧
        MonitorCrossed c m m' := by
  unfold monitorEvents
  rw [List.any_eq_true]
  constructor
  · rintro ⟨b, hb, ht⟩
    obtain ⟨i, hi⟩ := List.mem_iff_getElem?.1 hb
    rw [List.getElem?_zipWith_eq_some] at hi
    obtain ⟨m, m', h1, h2, rfl⟩ := hi
    exact ⟨i, m, m', h1, h2, (monitorEvent_iff c m m').1 ht⟩
  · rintro ⟨i, m, m', h1, h2, h⟩
    exact ⟨_, List.mem_iff_getElem?.2 ⟨i, List.getElem?_zipWith_eq_some.2 ⟨m, m', h1, h2, rfl⟩⟩,
      (monitorEvent_iff c m m').2 h⟩

theorem monSampleSet_monitors (c : Configuration) (scn : Scn) (r : RoundState) (m : Mon) :
    (m.sampleSet c scn r).monitors = stepAllMonitors c scn.blocs m.monitors := by
  unfold Mon.sampleSet Mon.stepSpreadBlock
  dsimp only
  split <;> [(split <;> rfl); rfl]

/-- Taking the measurements in requests a Status exactly for a monitor event (R48, R116). -/
theorem conditioned_statusQueued (w : List ScanWord) : (conditioned w s).clm.statusQueued = true ↔
    s.clm.statusQueued = true ∨ (queueOpen s.cfg.mode = true ∧ MonitorEvents s (conditioned w s)) := by
  have hm : MonitorEvents s (conditioned w s) ↔
      monitorEvents s.cfg.config (s.scn.complete w).blocs s.mon.monitors = true := by
    rw [monitorEvents_iff, MonitorEvents, conditioned_mon, monSampleSet_monitors]
  rw [hm]
  show (takeMeasurements w s).clm.statusQueued = true ↔ _
  unfold takeMeasurements requestStatus
  dsimp only
  by_cases h : monitorEvents s.cfg.config (s.scn.complete w).blocs s.mon.monitors = true
  · rw [if_pos h]; by_cases q : queueOpen s.cfg.mode = true <;> simp [q, h]
  · rw [if_neg h]; simp [h]

theorem conditioned_spec (e w) : Measured e s (conditioned w (s.reach e)) := by
  obtain ⟨q, hq⟩ := conditioned_form (s := s.reach e) w
  refine ⟨?_, ?_, ?_⟩
  · generalize conditioned w (s.reach e) = v at *
    obtain ⟨a,b,c,c',d,e1,f,g,i,j,k,l,o,p,n⟩ := v
    simp only [State.mk.injEq] at hq
    obtain ⟨rfl,rfl,rfl,rfl,rfl,hs,ha,hm,rfl,rfl,rfl,rfl,rfl,rfl,rfl⟩ := hq
    rfl
  · rw [conditioned_acc]; exact acc_sampleSet_force _ _ _ _ _
  · exact conditioned_statusQueued (s := s.reach e) w

/-! ### The delivery -/

theorem deliverSampleSet_eq (w) : deliverSampleSet w s =
    reduceShare (conditioned w s).scn.current (roundSample (conditioned w s)) := rfl

/-- The measurements of `s` stand in `t`: what the round's and the claims' steps leave alone. -/
structure MeasurementsKept (s t : State) : Prop where
  scn : t.scn = s.scn
  mon : t.mon = s.mon
  temp : t.rnd.temperature = s.rnd.temperature
  rest : t.rnd.restTimer = s.rnd.restTimer

theorem RoundFrame.measurementsKept (f : RoundFrame s t) :
    MeasurementsKept s t := ⟨f.scn, f.mon, f.temperature, f.restTimer⟩

theorem MeasurementsKept.trans (h : MeasurementsKept s t) (k : MeasurementsKept t u) :
    MeasurementsKept s u := ⟨k.1.trans h.1, k.2.trans h.2, k.3.trans h.3, k.4.trans h.4⟩

theorem MeasurementsKept.ite {c : Prop} [Decidable c] (h : MeasurementsKept s t) (k : MeasurementsKept s u) :
    MeasurementsKept s (if c then t else u) := by
  split
  · exact h
  · exact k

theorem roundSample_measurementsKept : MeasurementsKept s (roundSample s) := by
  have hr : MeasurementsKept s s := ⟨rfl, rfl, rfl, rfl⟩
  have hs : ∀ x, MeasurementsKept s { s with rnd.round := x } := fun x => ⟨rfl,rfl,rfl,rfl⟩
  unfold roundSample
  split <;> first | exact hr | skip
  · exact .ite (hs _) (.ite (hs _) hr)
  · exact .ite (.ite ⟨rfl,rfl,rfl,rfl⟩ hr) (hs _)
  · exact .ite (.ite ⟨rfl,rfl,rfl,rfl⟩ hr) (hs _)
  · exact .ite hr ((frame_withdraw .eq s).measurementsKept.trans ⟨rfl,rfl,rfl,rfl⟩)
  · exact .ite hr ((frame_withdraw .water s).measurementsKept.trans ⟨rfl,rfl,rfl,rfl⟩)
  · exact (frame_prepareSample s).measurementsKept
  · exact (frame_equaliseSample s).measurementsKept
  · exact (frame_equaliseSample s).measurementsKept
  · exact (frame_backSample s).measurementsKept

theorem deliverSampleSet_measurementsKept (w) : MeasurementsKept (conditioned w s) (deliverSampleSet w s) :=
    roundSample_measurementsKept.trans (frame_reduceShare _ _).measurementsKept

theorem deliverSampleSet_scn (w) : (deliverSampleSet w s).scn =
    s.scn.complete w := (deliverSampleSet_measurementsKept w).scn.trans (conditioned_scn w)

theorem deliverSampleSet_mon (w) : (deliverSampleSet w s).mon =
    s.mon.sampleSet s.cfg.config (s.scn.complete w) s.rnd.round := (deliverSampleSet_measurementsKept w).mon.trans
    (conditioned_mon w)

theorem deliverSampleSet_temperature (w) : (deliverSampleSet w s).rnd.temperature =
    stringTemperature (s.scn.complete w).pilot (s.scn.complete w).ambient := by
  rw [(deliverSampleSet_measurementsKept w).temp]; obtain ⟨q, h⟩ := conditioned_form (s := s) w; rw [h]

theorem deliverSampleSet_restTimer (w) : (deliverSampleSet w s).rnd.restTimer =
    stepRestTimer s.cfg.config s.rnd.round (s.acc.recognises s.cfg.config (s.scn.complete w).current s.rnd.round)
    s.rnd.restTimer := by
  rw [(deliverSampleSet_measurementsKept w).rest]; obtain ⟨q, h⟩ := conditioned_form (s := s) w; rw [h]

theorem exec_sampleSet_eq {w e} (h : s.scn.scanEnds = some e) : exec (.sampleSet w) s =
    .next (deliverSampleSet w (s.reach e)) := by
  simp only [exec, execSampleSet, h]

end Sys2Proof.Machine
end

