-- ==== Sys2Proof/WellFormed.lean ====
section
/-! DEFINITION. The check of a command's operands: the lengths that the scan link, the configuration record and
the site line fix. The machine is total: it gives a command that fails this check a meaning as well (log entry 13). -/

namespace Sys2Proof

/-- A frame is 5 to 29 bytes long (section 5.2). -/
def frameWellFormed (frame : List Byte) : Bool :=
  decide (5 ≤ frame.length) && decide (frame.length ≤ 29)

/-- A command whose operands have the lengths the spec gives them (R2, R76, R191, R194, section 5.2). -/
def Instr.wellFormed : Instr → Bool
  | .configurationRead record => record.length == 48
  | .selfTest (some bytes) => frameWellFormed bytes
  | .sampleSet words => words.length == 30
  | .statusNotice _ f => frameWellFormed f
  | .claimNotice _ f => frameWellFormed f
  | .releaseNotice _ f => frameWellFormed f
  | .reportNotice _ f => frameWellFormed f
  | .hold _ f => frameWellFormed f
  | .stop _ f => frameWellFormed f
  | .forceEq _ f => frameWellFormed f
  | .forceWater _ f => frameWellFormed f
  | .clear _ f => frameWellFormed f
  | .query _ f => frameWellFormed f
  | .frameAbandoned heard => decide (24 < heard.length.toNat)
  | .selfTest none => true
  | .reset => true
  | .strapsSettled _ _ => true
  | .scanStart => true
  | .hourExpiry => true
  | .lineIdle _ => true
  | .lineBreak _ => true
  | .dominantCount _ => true
  | .attemptStart _ => true
  | .arbitrationLost _ => true
  | .bitError _ => true
  | .attemptComplete => true
  | .recoveryAttempt => true
  | .statusPeriodExpiry => true
  | .joiningTimerExpiry => true
  | .holdTimerExpiry => true
  | .contentionWindowExpiry _ => true
  | .backOffExpiry _ => true
  | .chargerWaitExpiry => true
  | .transferWindowExpiry => true
  | .recoveryCheckExpiry => true
  | .currentWaitExpiry => true
  | .restPeriodExpiry => true
  | .rawLevelChange _ _ _ => true
  | .stabilityTimerExpiry _ => true
  | .flowEdge _ _ => true
  | .flowTimerExpiry => true
  | .earlyFlowLimitExpiry => true
  | .flowWindowExpiry => true
  | .openPeriodExpiry => true
  | .drainGraceExpiry => true
  | .offTimeExpiry => true
  | .roundLimitExpiry => true
  | .dryLatchExpiry => true
  | .pwmPeriodStart => true
  | .framingError _ => true
  | .frameDiscarded _ => true

end Sys2Proof
end

