-- ==== Sys2Proof/Tests/Slice0.lean ====
section
/-! SUPPORT. The model's own tests: the ill-formed terms WellFormed refuses, worked cases of the spec, and for each
statement with hypotheses a witness that meets them. Expected values come from the spec's text, named in each comment. -/

namespace Sys2Proof.Machine.Tests

set_option Elab.async false

/-! ### Small states -/

/-- The state after a command; the state before it where the command stops. -/
def run (c : Instr) (s : State) : State :=
  match exec c s with
  | .next t => t
  | .fault _ => s
  | .refused _ => s

/-- The site of section 7.14, with four blocs and four groups in use. -/
def siteConfig : Configuration :=
  { builtInDefaults with
    nSite := 6, rMin := 2, eBus := 400, capacity := 500, window := 4, blocCount := 4, groupCount := 4,
    cells := [1, 1, 1, 1], vFlow := 20, probeEnable := 0x0E#8 }

/-- A FRESH channel. -/
def fresh (v : Int) : Channel :=
  { value := v, freshness := .fresh, invalidRun := 0, recoveryRun := 0, clamped := false }

/-- Node 3 of that site: RUN, FLOAT, full and rested. -/
def node : State :=
  { State.reset with
    now := 20000000
    nextSecond := 21000000
    cfg :=
      { State.reset.cfg with
        mode := .run, address := some 3#5, readEnded := true, config := siteConfig, selfTest := .passed }
    scn :=
      { State.reset.scn with
        expected := some 9#4, blocs := List.replicate 4 (fresh 2230), current := fresh 0, voltage := fresh 52000,
        pilot := fresh 231, ambient := fresh 231, staleCount := 0 }
    mon.monitors := List.replicate 4 resetMonitor
    acc.charge := 18000000
    lin.assembler := .ready
    lin.idle := .full 20000000
    fld.strapTimer := none
    clm.statusTimer := some 30000000
    rnd.temperature := some 231
    rnd.restTimer := 7200 }

/-- A scan in progress. -/
def scanning (s : State) : State := { s with scn.scanEnds := some 20002040 }

/-- A scan word of good parity with these 16 bits. -/
def word (n : Nat) : ScanWord :=
  let w := BitVec.ofNat 17 (2 * n)
  if goodParity w then w else w ||| 1#17

/-- The 30 words of a scan: header, blocs, current, string voltage, pilot, ambient, status. -/
def scan (header bloc current pilot ambient status : Nat) : List ScanWord :=
  word header :: List.replicate 24 (word bloc) ++
    [word current, word 52000, word pilot, word ambient, word status]

/-- A good scan, sequence 9, with this current. -/
def goodScan (current : Nat) : List ScanWord := scan 0xA5C9 2230 current 231 231 0

/-- An open record of an equalising round. -/
def openRound : OpenRecord := { kind := .equalise, outcome := none, cause := none, openedAt := 0 }

/-- An open record of a watering round. -/
def openWatering : OpenRecord := { kind := .watering, outcome := none, cause := none, openedAt := 0 }

/-- The EQ claim of section 7.14's node 3 in a state. -/
def claim (st : ClaimState) : ClaimMachine :=
  { resetMachine with state := st, tag := 7, snapshot := 623, share := 250 }

/-- CLAIMING, the EQ claim QUEUED. -/
def queued : State := { node with rnd.round := .claiming, clm.eq := claim .queued }

/-- CLAIMING, the EQ claim CONTENDING. -/
def contending : State :=
  { node with rnd.round := .claiming, clm.eq := { claim .contending with windowTimer := some 24000000 } }

/-- WATER_CLAIMING, the WATER claim QUEUED. -/
def waterQueued : State :=
  { node with rnd.round := .waterClaiming, clm.water := { claim .queued with share := 0 } }

/-- WATER_CLAIMING, the WATER claim CONTENDING. -/
def waterContending : State :=
  { node with
    rnd.round := .waterClaiming, clm.water := { claim .contending with share := 0, windowTimer := some 24000000 } }

/-- PREPARE under a HELD claim. -/
def preparing : State :=
  { node with
    clm.eq := claim .held
    rnd := { node.rnd with
             round := .prepare, record := some openRound, demand := true, chargerWait := some 140000000,
             pending := 250, pendingValid := true } }

/-- TRANSFER_OUT, equalise commanded at 20 s. -/
def movingOut : State :=
  { preparing with
    rnd := { preparing.rnd with
             round := .transferOut, chargerWait := none, relay := .equalise, transferFrom := some 20000000 }
    fld.crdy.active := true }

/-- EQUALISING, at the duty of section 8.10 at 0:00:53. -/
def equalising : State :=
  { movingOut with
    rnd := { movingOut.rnd with
             round := .equalising, transferFrom := none, duty := 352, applied := 250, pendingValid := false,
             elapsed := 11 }
    fld.fb.active := true
    fld.pwmDuty := 352 }

/-- TRANSFER_BACK with the current wait running. -/
def goingBack : State :=
  { equalising with
    rnd := { equalising.rnd with
             round := .transferBack, record := some { openRound with outcome := some .complete }, duty := 0,
             applied := 0, currentWait := some 25000000 }
    fld.pwmDuty := 0 }

/-- TRANSFER_BACK, float commanded at 20 s. -/
def returning : State :=
  { goingBack with
    rnd := { goingBack.rnd with relay := .float, currentWait := none, transferFrom := some 20000000 } }

/-- TRANSFER_BACK with a recovery check running. -/
def recovering : State :=
  { goingBack with
    rnd := { goingBack.rnd with
             relay := .float, currentWait := none, recoveryCheck := some { ends := 20250000, latches := false } } }

/-- STUCK. -/
def stuck : State :=
  { goingBack with
    rnd := { goingBack.rnd with round := .stuck, relay := .float, currentWait := none, inhibit := true } }

/-- WATERING, the first pulse of group 2 open. -/
def watering : State :=
  { node with
    clm.water := { claim .held with share := 0 }
    rnd := { node.rnd with round := .watering, record := some openWatering }
    wat := { node.wat with
             plan := [1, 3, 0, 2], valve := some 1, openPeriod := some 25000000, earlyLimit := some 20200000,
             flowWindow := some 24000000, roundLimit := some 7220000000
             groups := node.wat.groups.set 1 { resetGroup with target := 274000, cap := 411000 } } }

/-- WATERING in a closed period, the drain grace and the off time running. -/
def draining : State :=
  { watering with
    wat := { watering.wat with
             valve := none, openPeriod := none, flowWindow := none, drainGrace := some 23000000,
             offTime := some 30000000, closedPeriod := true } }

/-- A peer in reserve. -/
def peer (a : Nat) : PeerRecord :=
  { address := a, mode := .run, available := true, discharging := false, eqClaim := none, waterClaim := none, age := 0 }

/-- The five peers of section 7.14 in the table. -/
def withPeers (s : State) : State := { s with ptb := [1, 2, 4, 5, 6].map peer }

/-- The stability timer of an input ends with its pin at a level. -/
def edgeComing (i : LevelInput) (high : Bool) (s : State) : State :=
  { s with fld := s.fld.withLine i { pinHigh := high, active := !high, timer := some 20010000 } }

/-- A Directive of the panel. -/
def directiveFrame (dest code m : Nat) : List Byte := noticeFrame (.directive dest (byteOf code) m)

/-! ### WellFormed refuses an ill-formed term for each of its checks -/

theorem test_refuses_short_record : (Instr.configurationRead (List.replicate 47 0#8)).wellFormed = false := by decide
theorem test_refuses_short_loopback : (Instr.selfTest (some [0#8, 0#8, 0#8, 0#8])).wellFormed = false := by decide
theorem test_refuses_legal_length : (Instr.frameAbandoned { after := 0, length := 24#8 }).wellFormed = false := by decide
theorem test_refuses_short_scan : (Instr.sampleSet (List.replicate 29 0#17)).wellFormed = false := by decide
theorem test_refuses_long_status : (Instr.statusNotice 0 (List.replicate 30 0#8)).wellFormed = false := by decide
theorem test_refuses_empty_claim : (Instr.claimNotice 0 []).wellFormed = false := by decide
theorem test_refuses_short_release : (Instr.releaseNotice 0 [1#8, 2#8]).wellFormed = false := by decide
theorem test_refuses_long_report : (Instr.reportNotice 0 (List.replicate 30 0#8)).wellFormed = false := by decide
theorem test_refuses_short_directives :
    (Instr.hold 0 [0#8]).wellFormed = false ∧ (Instr.stop 0 [0#8]).wellFormed = false ∧
      (Instr.forceEq 0 [0#8]).wellFormed = false ∧ (Instr.forceWater 0 [0#8]).wellFormed = false ∧
      (Instr.clear 0 [0#8]).wellFormed = false ∧ (Instr.query 0 [0#8]).wellFormed = false := by decide
theorem test_accepts_the_lengths :
    (Instr.configurationRead (List.replicate 48 0#8)).wellFormed = true ∧
      (Instr.sampleSet (goodScan 0)).wellFormed = true ∧
      (Instr.statusNotice 0 (List.replicate 29 0#8)).wellFormed = true := by decide

/-! ### Worked cases of the spec -/

/-- The catalogued check value of the CRC of R77 (generator 0x8005, initial value 0, unreflected). -/
theorem test_crc_check_value :
    crc16 [0x31#8, 0x32#8, 0x33#8, 0x34#8, 0x35#8, 0x36#8, 0x37#8, 0x38#8, 0x39#8] = 0xFEE8#16 := by decide +kernel

/-- Section 5.9: the header bits of node 7's Release. -/
theorem test_release_header :
    (frameBits (noticeFrame (.release 7 1#8 1#8 1#8))).take 10 =
      [false, false, true, false, false, false, true, true, true, true] := by decide +kernel

/-- Section 5.9: a Release is 8 bytes, a Claim 11, a Status without claim parts 13. -/
theorem test_frame_lengths :
    (noticeFrame (.release 7 1#8 1#8 1#8)).length = 8 ∧ (noticeFrame (.claim 3 1#8 7#8 623 250)).length = 11 ∧
      (noticeFrame (.status 2 (ownStatus node))).length = 13 := by decide +kernel

/-- Section 1.8, scan d: a bad marker is a miss, and the known expected sequence advances. -/
theorem test_miss_advances : nextExpected (some 11#4) (word 0xA1CB) = some 12#4 := by decide +kernel

/-- Section 1.8, scan h: the sequence jumps from 13 to 15. -/
theorem test_repeat_follows :
    classifyHeader (some 14#4) (word 0xA5CF) = .repeated ∧ nextExpected (some 14#4) (word 0xA5CF) = some 0#4 := by
  decide +kernel

/-- Section 1.8, sample set 6: the fifth invalid scan in a row. -/
theorem test_fifth_invalid_scan :
    Channel.step { fresh 2232 with freshness := .held, invalidRun := 4 } none =
      { fresh 2232 with freshness := .stale, invalidRun := 5 } := by decide

/-- Section 1.8, sample set 10: 4712 mV is clamped, and counts toward recovery. -/
theorem test_clamped_recovering :
    Channel.step { fresh 2241 with freshness := .stale, invalidRun := 5 } (readChannelWord false 0 4000 (word 4712)) =
      { value := 4000, freshness := .stale, invalidRun := 5, recoveryRun := 1, clamped := true } := by decide +kernel

/-- Section 2.11: the room of 6 is filled, the rest of 123 is gassing. -/
theorem test_charge_fills_the_room :
    let t := run (.sampleSet (goodScan 123)) (scanning { node with acc.charge := 17999994 })
    t.acc.charge = 18000000 ∧ t.acc.gassing = 117 := by decide +kernel

/-- Section 2.11: 0.1 A stores nothing and gasses 1. -/
theorem test_small_charge :
    let t := run (.sampleSet (goodScan 1)) (scanning { node with acc.charge := 17999640 })
    t.acc.charge = 17999640 ∧ t.acc.gassing = 1 := by decide +kernel

/-- Section 2.11: one second at −120.0 A. -/
theorem test_discharge :
    let t := run (.sampleSet (goodScan (65536 - 1200))) (scanning node)
    t.acc.charge = 17998800 ∧ t.acc.discharged = 1200 := by decide +kernel

/-- Section 2.11: deficit and urgency near their caps. -/
theorem test_deficit_caps :
    deficitOf 10714285 = 99999 ∧ urgencyOf 99999 = 999 ∧ deficitOf 10714286 = 100000 ∧ urgencyOf 100000 = 1000 ∧
      deficitOf 107142749 = 999998 ∧ deficitOf 4294967295 = 999999 := by decide

/-- Section 3.8: mean and spread of seven participating blocs. -/
theorem test_mean_and_spread :
    meanOf [2231, 2228, 2240, 2219, 2302, 2225, 2235] = some 2240 ∧
      spreadOf [2231, 2228, 2240, 2219, 2302, 2225, 2235] = some 83 := by decide

/-- Section 3.8: the deviation monitor holds between 46 and 50 mV. -/
theorem test_deviation_hysteresis :
    stepDeviation siteConfig (some 2240) 2290 true = true ∧ stepDeviation siteConfig (some 2240) 2286 true = true ∧
      stepDeviation siteConfig (some 2240) 2285 true = false ∧
      stepDeviation siteConfig (some 2240) 2290 false = false ∧
      stepDeviation siteConfig (some 2240) 2291 false = true := by decide

/-- Section 3.8: the band condition at 30 mV and 5.0 A. -/
theorem test_band_condition :
    bandCondition siteConfig (fresh 46) (some 30) = true ∧ bandCondition siteConfig (fresh 46) (some 31) = false ∧
      bandCondition siteConfig (fresh 51) (some 28) = false ∧ bandCondition siteConfig (fresh 45) none = false := by
  decide

/-- Section 4.7: score terms. -/
theorem test_score_terms :
    timeTerm siteConfig 1800 = 333 ∧ turnoverTerm siteConfig (360 * 16700) = 25 ∧ spreadTerm siteConfig 48 = 90 ∧
      spreadTerm siteConfig 52 = 110 := by decide

/-- Section 6.9: the site figures at one moment. -/
theorem test_site_figures :
    let table : List PeerRecord :=
      [peer 2, { peer 3 with eqClaim := some { tag := 1, share := 250, snapshot := 600, phase := .held } },
        { peer 4 with
          age := 35, eqClaim := some { tag := 1, share := 200, snapshot := 600, phase := .contending } },
        { peer 5 with discharging := true },
        { peer 6 with waterClaim := some { tag := 1, snapshot := 600, phase := .held } }]
    availableUnclaimed 10 table = 2 ∧ committedShare table = 450 ∧ waterOccupied table = true := by decide

/-- Section 6.9: a claim seen CONTENDING and then HELD is CHANGED; the same again is UNCHANGED. -/
theorem test_update_kinds :
    let c : EqClaim := { tag := 17, share := 250, snapshot := 623, phase := .contending }
    eqChange none (some c) = .new ∧ eqChange (some c) (some c) = .unchanged ∧
      eqChange (some c) (some { c with phase := .held }) = .changed ∧ eqChange (some c) none = .removed := by decide

/-- Section 7.14: node 5 is left 150 of the charger beside node 3's 250. -/
theorem test_share_left :
    claimShare { node with
      ptb := [{ peer 3 with eqClaim := some { tag := 7, share := 250, snapshot := 623, phase := .held } }] } = 150 := by
  decide

/-- Section 7.14: the back-off times of nodes 3 and 5. -/
theorem test_back_off_times :
    node.backOffUs = 16000000 ∧ State.backOffUs { node with cfg.address := some 5#5 } = 8000000 := by decide

/-- Section 8.10, 0:00:53: error 118, step 29, duty 381. -/
theorem test_regulator_step : nextDuty false 250 132 352 = 381 ∧ nextDuty false 250 12 32 = 64 := by decide

/-- Section 8.10, 1:19:59: an average of 118 gives a share of 148; 50 gives 63. -/
theorem test_reduced_share :
    reducedShare (List.replicate 60 118) = 148 ∧ reducedShare (List.replicate 60 50) = 63 := by decide +kernel

/-- Section 9.7: the plan lists groups 2, 4, 1, 3, and group 4's cap is 373,500 µL. -/
theorem test_plan_order :
    let c := { siteConfig with cells := [4, 4, 4, 4], blocCount := 24 }
    let before := [0, 30000, 0, 5000, 0, 0, 0, 0].map fun n => { resetGroup with carried := n }
    planList c (planGroups c 61000 before) = [1, 3, 0, 2] ∧
      ((planGroups c 61000 before).getD 3 resetGroup).cap = 373500 := by decide +kernel

/-- Section 9.7: group 3 is left 204,000 µL, and 244,000 µL at 260 mL is reached. -/
theorem test_carried_after :
    carriedAfter true { resetGroup with target := 244000, dosed := 40 } = 204000 ∧
      doseReached { node with wat.groups := [{ resetGroup with target := 244000, cap := 366000, dosed := 260 }] } 0 =
        true := by decide

/-- Section 8.10: a move of 71 ms succeeds, 5 ms is early (section 8.10, the failed move out). -/
theorem test_move_out :
    (run (.stabilityTimerExpiry .fb) (edgeComing .fb true { movingOut with now := 20071000 })).rnd.round = .equalising ∧
      (run (.stabilityTimerExpiry .fb) (edgeComing .fb true { movingOut with now := 20005000 })).rnd.round =
        .transferBack := by decide +kernel

/-- Section 5.9: the eighth failed attempt isolates the node and aborts the round with cause LINE. -/
theorem test_line_fault :
    let t := run (.bitError 0) { equalising with
      lin.attempt := some { notice := .status, frame := [0#8], start := 20000000 }, lin.retry := 7 }
    t.cfg.mode = .isolated ∧ t.clm.eq.state = .none ∧ t.rnd.relay = .float ∧ t.lin.retry = 0 := by decide +kernel


/-! ### Witnesses: the machine as a whole -/

theorem node_coherent : Coherent node := by constructor <;> first | decide | (unfold claimPending; decide)

theorem node_modes : ModesKept node :=
  ⟨by decide, by decide, by decide, by decide, by decide, (by intro a h; cases h), by decide, by decide⟩

theorem node_shares : SharesInOrder node := ⟨by decide, by decide, by decide, by decide⟩

theorem fresh_inRange (v lo hi : Int) (h : lo ≤ v ∧ v ≤ hi) : (fresh v).InRange lo hi :=
  ⟨h, fun _ => rfl, by simp [fresh], by simp [fresh], fun _ => rfl⟩

theorem node_values : ValuesInRange node := by
  refine ⟨?_, ⟨⟨rfl, ?_⟩, ?_, ?_, ?_, ?_, rfl, rfl⟩, ?_, ?_, ?_, ?_, by decide, ?_, by decide, by decide, by decide,
    by decide, by decide, by decide, ?_, ?_, by decide, ?_, ?_⟩
  · constructor <;> decide
  · intro c hc
    rw [(List.mem_replicate.1 hc).2]
    exact fresh_inRange _ _ _ (by decide)
  · exact fresh_inRange _ _ _ (by decide)
  · exact fresh_inRange _ _ _ (by decide)
  · exact fresh_inRange _ _ _ (by decide)
  · exact fresh_inRange _ _ _ (by decide)
  · exact ⟨(by intro d h; cases h), by decide, by decide, by decide⟩
  · constructor <;> decide
  · constructor <;> decide
  · constructor <;> decide
  · intro a r n h; cases h
  · intro r hr
    rw [(List.mem_replicate.1 hr).2]
    decide
  · exact ⟨by decide, fun h => by cases h⟩
  · intro l h
    rcases h with h | h <;> cases h
  · intro h; cases h

theorem equalising_coherent : Coherent equalising := by constructor <;> first | decide | (unfold claimPending; decide)

theorem stuck_coherent : Coherent stuck := by constructor <;> first | decide | (unfold claimPending; decide)

theorem watering_coherent : Coherent watering := by constructor <;> first | decide | (unfold claimPending; decide)

theorem equalising_shares : SharesInOrder equalising := ⟨by decide, by decide, by decide, by decide⟩

theorem peers_kept : PeersKept (withPeers node) := by
  refine ⟨by decide, ?_, by decide⟩
  intro p hp
  obtain ⟨a, ha, rfl⟩ := List.mem_map.1 hp
  refine ⟨?_, Nat.zero_le _, (by intro c h; cases h), (by intro c h; cases h)⟩
  fin_cases ha <;> decide

theorem witness_StepRunsFrontCommand : State.reset.pending = [] := rfl

theorem witness_EveryCommandCompletes :
    Instr.scanStart ≠ .reset ∧ node.cfg.readEnded = true ∧ node.cfg.address = some 3#5 := by decide

theorem witness_OutputsFollowTheState_relay : Coherent equalising ∧ equalising.rly = true ∧
    State.lim { equalising with fld.pwmStart := 19999999 } = true := ⟨equalising_coherent, by decide⟩

/-- The counts 351 and 352 of a period of duty 352; the bits 0, 1 and 3 of a Status of node 3 (header 0xC3) and the time
before it; the bits 6, 7 and 8 of the read request (0x03), and the time after it. -/
theorem witness_OutputsFollowTheState_bits :
    State.lim { equalising with fld.pwmStart := 19999649 } = true ∧
      State.lim { equalising with fld.pwmStart := 19999648 } = false ∧ node.txdHigh = true ∧
      (let s (t : Nat) : State :=
        { node with
          now := t, lin.attempt := some { notice := .status, frame := [0xC3#8], start := 20000000 } }
       (s 20000000).txdHigh = false ∧ (s 20000053).txdHigh = true ∧ (s 20000157).txdHigh = false ∧
         (s 20000469).txdHigh = true) ∧
      (let s (t : Nat) : State := { State.reset with now := t }
       (s 23).requestBit = some false ∧ (s 24).requestBit = some true ∧ (s 31).requestBit = some true ∧
         (s 32).requestBit = some false ∧ (s 95).requestBit = some false ∧ (s 96).requestBit = none) ∧
      node.requestBit = none ∧ State.reset.secondSelect = true ∧ (scanning node).firstSelect = true ∧
      (scanning node).secondSelect = false := by decide +kernel

theorem witness_OutputsFollowTheState_valve : Coherent watering ∧ watering.vlv 1 = true :=
  ⟨watering_coherent, by decide⟩

theorem witness_OutputsFollowTheState_stuck : Coherent stuck ∧ stuck.rnd.round = .stuck := ⟨stuck_coherent, rfl⟩

theorem witness_OutputsFollowTheState_polarity :
    (let s : State := { node with cfg.config.almActiveHigh := true }
     s.cfg.readEnded = true ∧ s.cfg.config.almActiveHigh = true) ∧
      State.reset.cfg.readEnded = false ∧ node.cfg.config.almActiveHigh = false := by decide

theorem node_with_coherent (a : Acc) (c : Scn) (now : Nat) (q : List Instr) :
    Coherent { node with now := now, acc := a, scn := c, pending := q } :=
  ⟨node_coherent.1, node_coherent.2, node_coherent.3, node_coherent.4, node_coherent.5, node_coherent.6,
    node_coherent.7, node_coherent.8, node_coherent.9, node_coherent.10, node_coherent.11, node_coherent.12,
    node_coherent.13, node_coherent.14, node_coherent.15, node_coherent.16, node_coherent.17, node_coherent.18,
    node_coherent.19, node_coherent.20, node_coherent.21, node_coherent.22, node_coherent.23, node_coherent.24,
    node_coherent.25, node_coherent.26, node_coherent.27, node_coherent.28, node_coherent.29, node_coherent.30⟩

/-- Node 3 with a command waiting. -/
def waitingNode : State := { node with pending := [.scanStart] }

theorem waiting_modes : ModesKept waitingNode :=
  ⟨by decide, by decide, by decide, by decide, by decide, (by intro a h; cases h), by decide, by decide⟩

theorem node_values_with (q : List Instr) (b : Bool) :
    ValuesInRange { node with pending := q, clm.statusQueued := b } :=
  ⟨node_values.1, ⟨node_values.2.1, node_values.2.2, node_values.2.3, node_values.2.4, node_values.2.5,
    node_values.2.6, node_values.2.7⟩, node_values.3, node_values.4, node_values.5, node_values.6, node_values.7,
    node_values.8, node_values.9, node_values.10, node_values.11, node_values.12, node_values.13, node_values.14,
    node_values.15, node_values.16, node_values.17, node_values.18, node_values.19⟩

/-- The step from there sets the next second. -/
theorem waiting_steps : step waitingNode = .next (run .scanStart node) ∧ (run .scanStart node).nextSecond = 22000000 :=
  ⟨rfl, by decide⟩

theorem witness_ModesStayKept : ModesKept waitingNode ∧ ∃ t, step waitingNode = .next t :=
  ⟨waiting_modes, _, waiting_steps.1⟩

theorem witness_RoundStaysCoherent : ModesKept waitingNode ∧ Coherent waitingNode ∧ ∃ t, step waitingNode = .next t :=
  ⟨waiting_modes, node_with_coherent _ _ _ _, _, waiting_steps.1⟩

theorem witness_PeersStayKept : ModesKept (withPeers node) ∧ PeersKept (withPeers node) ∧
    step (withPeers node) = .next (withPeers node) :=
  ⟨⟨by decide, by decide, by decide, by decide, by decide, (by intro a h; cases h), by decide, by decide⟩,
    peers_kept, rfl⟩

theorem witness_ValuesStayInRange : Coherent waitingNode ∧ ValuesInRange waitingNode ∧
    ∃ t, step waitingNode = .next t := ⟨node_with_coherent _ _ _ _, node_values_with _ _, _, waiting_steps.1⟩

theorem witness_HeldShareNeverGrows : Coherent equalising ∧ SharesInOrder equalising ∧
    step equalising = .next equalising ∧ equalising.clm.eq.state = .held :=
  ⟨equalising_coherent, equalising_shares, rfl, rfl⟩


/-! ### Witnesses: start-up -/

/-- STARTING with the site's configuration read and the self-test at a point. -/
def starting (t : SelfTest) : State :=
  { State.reset with cfg := { State.reset.cfg with readEnded := true, config := siteConfig, selfTest := t } }

/-- The configuration record of the string of section 9.7 (R201), before its CRC. -/
def recordBody : List Byte :=
  [0x01, 6, 2, 0x01, 0x90, 0x01, 0xF4, 96, 20, 0, 90, 4, 30, 0, 90, 0, 50, 0x09, 0x92, 0x07, 0x08, 0xFC, 60, 0x22, 12,
    0x00, 0xEA, 0x60, 4, 4, 4, 4, 4, 0, 0, 0, 0, 5, 10, 20, 10, 4, 24, 0x0E, 0, 0x38]

/-- A passing record. -/
def goodRecord : List Byte := recordBody ++ crcBytes recordBody

/-- The same record with an efficiency below its range. -/
def lowRecord : List Byte := recordBody.set 7 89 ++ crcBytes (recordBody.set 7 89)

theorem test_record_read :
    let c := checkedConfiguration goodRecord
    c.nSite = 6 ∧ c.eBus = 400 ∧ c.capacity = 500 ∧ c.vhi = 2450 ∧ c.wth = 60000 ∧ c.cells = [4, 4, 4, 4] ∧
      c.minHours = 2 ∧ c.restHours = 2 ∧ c.blocCount = 24 ∧ c.probeEnable = 0x0E#8 := by decide +kernel

theorem test_record_clamped : recordClamped lowRecord = true ∧ (checkedConfiguration lowRecord).eta = 90 := by
  decide +kernel

theorem witness_StartUpEnds_straps :
    node.cfg.address.isSome = true ∧ State.reset.cfg.address = none ∧ State.reset.cfg.selfTest.ended = false ∧
      (starting .passed).cfg.address = none ∧ (starting .passed).cfg.mode = .starting ∧
      (starting .passed).cfg.selfTest.ended = true := by decide

theorem witness_StartUpEnds_modes :
    (run (.strapsSettled 20000 0#5) (starting .passed)).cfg.mode = .silent ∧
      (run (.strapsSettled 20000 1#5) (starting .passed)).cfg.mode = .joining ∧
      (run (.strapsSettled 20000 6#5) (starting .passed)).cfg.mode = .joining ∧
      (run (.strapsSettled 20000 7#5) (starting .passed)).cfg.mode = .silent ∧
      (run (.strapsSettled 20000 6#5) (starting .failed)).cfg.mode = .silent ∧
      (run (.strapsSettled 20000 6#5) { starting .passed with cfg.failed := true }).cfg.mode = .monitorOnly := by decide

/-- The straps one microsecond before and at 20 ms; a second reading. -/
theorem witness_StartUpEnds_settling :
    (starting .passed).fld.strapTimer = some 20000 ∧
      (run (.strapsSettled 19999 6#5) (starting .passed)).cfg.address = none ∧
      (run (.strapsSettled 20000 6#5) (starting .passed)).cfg.address = some 6#5 ∧
      (run (.strapsSettled 20000 6#5) node).cfg.address = some 3#5 ∧
      (∀ d, node.cfg.selfTest ≠ .running d) :=
  ⟨rfl, by decide, by decide, by decide, fun d h => by cases h⟩

theorem witness_StartUpEnds_selfTest :
    (starting (.running 6424)).cfg.selfTest = .running 6424 ∧ (starting (.running 6424)).cfg.address = none ∧
      (some testFrame ≠ none) ∧
      (let s : State := { starting (.running 6424) with cfg.address := some 3#5 }
       s.cfg.address.isSome = true ∧ s.cfg.mode = .starting) := by decide

theorem witness_ConfigurationReadEnds :
    node.cfg.readEnded = true ∧ State.reset.cfg.readEnded = false ∧ recordPasses goodRecord = true ∧
      recordPasses (goodRecord.set 1 7) = false ∧ recordPasses (goodRecord.take 47) = false := by decide +kernel

theorem witness_CheckedConfigurationInRange :
    recordPasses goodRecord = true ∧ recordClamped goodRecord = false ∧ recordPasses lowRecord = true ∧
      recordClamped lowRecord = true := by decide +kernel

/-- The record with some bytes replaced. -/
def recordWith (bytes : List (Nat × Byte)) : List Byte :=
  let body := bytes.foldl (fun r b => r.set b.1 b.2) recordBody
  body ++ crcBytes body

/-- Six blocs in three groups of three cells leave 3, 2 and 1 cells; the reserve of a site of 3 ends at 2; S_bad is at least
S_ok + 10; the number of groups ends at B and at 8; selection codes 1, 2 and 3. -/
theorem witness_CheckedConfigurationInRange_clamps :
    (checkedConfiguration (recordWith [(42, 6#8), (28, 3#8), (29, 3#8), (30, 3#8), (31, 3#8)])).cells = [3, 2, 1] ∧
      (checkedConfiguration (recordWith [(1, 3#8), (2, 9#8)])).rMin = 2 ∧
      (checkedConfiguration (recordWith [(12, 200#8), (14, 90#8)])).sBad = 210 ∧
      (checkedConfiguration (recordWith [(42, 5#8), (28, 9#8)])).groupCount = 5 ∧
      (checkedConfiguration (recordWith [(28, 9#8)])).groupCount = 8 ∧
      (checkedConfiguration (recordWith [(21, 0x6C#8)])).devSelection = .entry ∧
      (checkedConfiguration (recordWith [(21, 0x6C#8)])).highSelection = .ret ∧
      (checkedConfiguration (recordWith [(21, 0x6C#8)])).lowSelection = .both ∧
      (recordPasses (recordWith [(21, 0x6C#8)])) = true := by decide +kernel

/-- The scan of one second with its words waiting: the first word is stored after 68 µs, the last at the end. -/
theorem witness_TimeBaseExpires_buffer :
    let s : State := { scanning node with pending := [.hourExpiry, .sampleSet (goodScan 0)] }
    let words (t : Nat) := (s.elapse t).scn.buffer
    s.now = 20000000 ∧ s.scn.scanEnds = some 20002040 ∧ incomingWords s.pending = some (goodScan 0) ∧
      words 67 = node.scn.buffer ∧ (words 68)[0]? = (goodScan 0)[0]? ∧ (words 68)[1]? = some 0#17 ∧
      (words 2039)[29]? = some 0#17 ∧ words 2040 = goodScan 0 ∧
      (run .hourExpiry s).scn.buffer = goodScan 0 ∧ node.scn.scanEnds = none := by decide +kernel

/-- A scan that a reset cuts off after its first word: a free value stood in the first place, the second still held its old
word, and the reset clears both. -/
theorem witness_TimeBaseExpires_cut :
    let s : State := { scanning node with pending := [.reset, .sampleSet (goodScan 0)] }
    incomingWords s.pending = none ∧ (s.elapse 68).scn.buffer[0]? = some (Config.linkWord 0 20002040 0) ∧
      (s.elapse 68).scn.buffer[1]? = some 0#17 ∧
      (run .reset (s.elapse 68)).scn.buffer = List.replicate 30 0#17 := by
  intro s
  have h (i : Nat) (hi : i < 30) := wordsStored_getElem? (s := s) (ends := 20002040) rfl 20000068 hi
  exact ⟨rfl, (h 0 (by decide)).trans rfl, (h 1 (by decide)).trans rfl, rfl⟩

/-! ### Witnesses: the scan, the monitors and the account -/

/-- A STALE channel. -/
def stale (v : Int) : Channel := { resetChannel with value := v }

/-- A scan in progress, with another pilot and ambient channel. -/
def temperatures (pilot ambient : Channel) : State :=
  { scanning node with scn.pilot := pilot, scn.ambient := ambient }

theorem goodScan_examined (s : State) (he : s.scn.expected = some 9#4) : Examined s (goodScan 0) := by
  refine ⟨by unfold OddOnes; decide +kernel, fun e h => ?_, by unfold OddOnes; decide +kernel⟩
  rw [Option.some.inj (h.symm.trans he)]; decide +kernel

theorem witness_SampleSetIsDelivered :
    node.scn.scanEnds = none ∧ (scanning node).scn.scanEnds = some 20002040 ∧
      (run (.sampleSet (goodScan 0)) (temperatures (fresh 231) (fresh 231))).scn.pilot.freshness ≠ .stale ∧
      (let t := run (.sampleSet (goodScan 0)) (temperatures (stale 0) (fresh 231))
       t.scn.pilot.freshness = .stale ∧ t.scn.ambient.freshness ≠ .stale) ∧
      (let t := run (.sampleSet (goodScan 0)) (temperatures (stale 0) (stale 0))
       t.scn.pilot.freshness = .stale ∧ t.scn.ambient.freshness = .stale) ∧
      (scanning movingOut).rnd.round = .transferOut ∧ offFloat (scanning movingOut).rnd.round = true := by
  decide +kernel

theorem witness_SampleSetIsDelivered_recognised :
    Recognised (scanning { node with acc.fullTimer := 7199 })
        (run (.sampleSet (goodScan 25)) (scanning { node with acc.fullTimer := 7199 })) ∧
      ¬ Recognised (scanning { node with acc.fullTimer := 7198 })
        (run (.sampleSet (goodScan 25)) (scanning { node with acc.fullTimer := 7198 })) := by
  unfold Recognised; decide +kernel

theorem witness_HeaderIsChecked :
    OddOnes (word 0xA5C9) ∧ (word 0xA5C9).extractLsb' 5 12 = 0xA5C#12 ∧ ¬ OddOnes (word 0xA5C9 ^^^ 1#17) ∧
      (word 0xA1C9).extractLsb' 5 12 ≠ 0xA5C#12 := by unfold OddOnes; decide +kernel

theorem witness_HeaderIsChecked_notExamined :
    ¬ Examined (scanning node) (scan 0xA5CA 2230 0 231 231 0) ∧ ¬ Examined (scanning node) (scan 0xA5C9 2230 0 231 231 1) :=
  ⟨fun h => absurd (h.sequence _ rfl) (by decide +kernel), fun h => absurd h.status.2 (by decide +kernel)⟩

theorem witness_ChannelWordsAreAccepted : Examined (scanning node) (goodScan 0) ∧
    OddOnes (word 4000) ∧ (word 4000).extractLsb' 1 16 = 4000#16 ∧ ¬ OddOnes 0#17 :=
  ⟨goodScan_examined _ rfl, by unfold OddOnes; decide +kernel⟩

/-- The numbers at and beyond the limits of the current's range. -/
theorem witness_ChannelWordsAreAccepted_range :
    readChannelWord true (-30000) 30000 (word 30000) = some (30000, false) ∧
      readChannelWord true (-30000) 30000 (word 30001) = some (30000, true) ∧
      readChannelWord true (-30000) 30000 (word (65536 - 30000)) = some (-30000, false) ∧
      readChannelWord true (-30000) 30000 (word (65536 - 30001)) = some (-30000, true) := by decide +kernel

theorem witness_MeanSpreadAndSummaries :
    ((run (.sampleSet (goodScan 0)) (scanning node)).scn.blocs.filter (fun c => c.freshness ≠ .stale)).length = 4 ∧
      (let s := { scanning node with scn.blocs := [fresh 2230, stale 0, stale 0, stale 0] }
       ((run (.sampleSet (goodScan 0)) s).scn.blocs.filter (fun c => c.freshness ≠ .stale)).length = 1) := by
  decide +kernel

theorem witness_MonitorsHaveHysteresis :
    let t := run (.sampleSet (scan 0xA5C9 2451 0 231 231 0)) (scanning node)
    (t.scn.blocs[0]?).map Channel.value = some 2451 ∧ (scanning node).mon.monitors[0]? = some resetMonitor ∧
      t.mon.mean = some 2451 ∧ (t.mon.monitors[0]?).map BlocMonitor.highOutside = some true ∧
      queueOpen node.cfg.mode = true ∧ t.clm.statusQueued = true := by decide +kernel

theorem witness_MonitorsHaveHysteresis_stale :
    let s := { scanning node with scn.blocs := [fresh 2230, stale 0, stale 0, stale 0] }
    let t := run (.sampleSet (goodScan 0)) s
    (t.scn.blocs[1]?).map Channel.freshness = some .stale ∧ t.mon.mean = none ∧
      s.mon.monitors[1]? = some resetMonitor := by decide +kernel

/-- A good scan with no bloc out of its limits, and an entry under the selection RETURN. -/
theorem witness_MonitorsHaveHysteresis_noEvent :
    (run (.sampleSet (goodScan 0)) (scanning node)).clm.statusQueued = false ∧
      (let s := scanning { node with cfg.config.highSelection := .ret }
       let t := run (.sampleSet (scan 0xA5C9 2451 0 231 231 0)) s
       (t.mon.monitors[0]?).map BlocMonitor.highOutside = some true ∧ t.clm.statusQueued = false) ∧
      node.rnd.round = .float := by decide +kernel

theorem witness_SpreadBlockAverages :
    let s := scanning { node with mon := { node.mon with spreadSum := 187148, spreadCount := 3599 } }
    (run (.sampleSet (goodScan 100)) s).mon.sFloat = 51 ∧ (run (.sampleSet (goodScan 100)) s).mon.sFloatValid = true ∧
      (run (.sampleSet (goodScan 101)) s).mon.spreadCount = 0 ∧
      (run (.sampleSet (goodScan 100)) (scanning node)).mon.spreadCount = 1 := by decide +kernel

theorem witness_DischargeIsBooked : Coherent (scanning node) ∧ (scanning node).scn.scanEnds = some 20002040 ∧
    (run (.sampleSet (goodScan (65536 - 1200))) (scanning node)).scn.current.value = -(1200 : Nat) ∧
    (scanning node).acc.charge = 18000000 :=
  ⟨node_with_coherent _ _ _ _, rfl, by decide +kernel, rfl⟩

/-- Charges of 123 with a room above, at and below the stored part of 118, and at full. -/
theorem witness_ChargeIsBooked : ∀ n ∈ [17999881, 17999882, 17999883, 18000000],
    let s := scanning { node with acc.charge := n }
    Coherent s ∧ s.scn.scanEnds = some 20002040 ∧
      (run (.sampleSet (goodScan 123)) s).scn.current.value = (123 : Nat) ∧
      123 * s.cfg.config.eta / 100 = 118 ∧ s.cfg.config.capacity * 36000 = 18000000 := by
  intro n hn
  refine ⟨node_with_coherent _ _ _ _, rfl, ?_⟩
  fin_cases hn <;> decide +kernel

/-- The full band ends at 25. -/
theorem witness_FullRecognition : Coherent (scanning node) ∧ Coherent (scanning equalising) ∧
    (run (.sampleSet (goodScan 25)) (scanning node)).acc.fullTimer = 1 ∧
    (run (.sampleSet (goodScan 26)) (scanning { node with acc.fullTimer := 9 })).acc.fullTimer = 0 ∧
    (run (.sampleSet (goodScan 25)) (scanning equalising)).acc.fullTimer = 0 ∧
    (run (.sampleSet (goodScan 0)) { scanning node with scn.current := stale 0 }).acc.uncertain = true :=
  ⟨node_with_coherent _ _ _ _, by constructor <;> first | decide | (unfold claimPending; decide), by decide +kernel⟩

/-- The discharge limit of the string is −50; runs of 58 and 59 step on. -/
theorem witness_DischargeDetector :
    (let s := scanning { node with acc.dischargeRun := 59 }
     Coherent s ∧ s.acc.dischargeRun ≤ 59 ∧ s.acc.recoveryRun ≤ 59 ∧ s.acc.discharging = false) ∧
    (run (.sampleSet (goodScan (65536 - 50))) (scanning { node with acc.dischargeRun := 59 })).acc.discharging = true ∧
    (run (.sampleSet (goodScan (65536 - 50))) (scanning { node with acc.dischargeRun := 58 })).acc.dischargeRun = 59 ∧
    (run (.sampleSet (goodScan (65536 - 49))) (scanning { node with acc.dischargeRun := 59 })).acc.dischargeRun = 0 :=
  ⟨⟨node_with_coherent _ _ _ _, by decide, by decide, rfl⟩, by decide +kernel⟩

theorem witness_DischargeDetector_recovery :
    let s (n : Nat) := scanning { node with acc := { node.acc with discharging := true, recoveryRun := n } }
    (run (.sampleSet (goodScan 0)) (s 59)).acc.discharging = false ∧
      (run (.sampleSet (goodScan 0)) (s 58)).acc.recoveryRun = 59 ∧
      (run (.sampleSet (goodScan 65535)) (s 59)).acc.recoveryRun = 0 := by decide +kernel

/-- S_float at and around its limits of 30 and 90. -/
theorem witness_ScoreAndWaterFigures :
    let s (n : Nat) := scanning { node with mon := { node.mon with sFloat := n, sFloatValid := true } }
    Coherent (scanning node) ∧ (run (.sampleSet (goodScan 0)) (scanning node)).mon.sFloatValid = false ∧
      (run (.sampleSet (goodScan 0)) (s 30)).acc.ts = 0 ∧ (run (.sampleSet (goodScan 0)) (s 31)).acc.ts = 5 ∧
      (run (.sampleSet (goodScan 0)) (s 89)).acc.ts = 295 ∧ (run (.sampleSet (goodScan 0)) (s 90)).acc.ts = 300 :=
  ⟨node_with_coherent _ _ _ _, by decide +kernel⟩


/-! ### Witnesses: the round at a sample set -/

/-- A score of 400 + 5 × (n − 30) by S_float, with 3600 still to come. -/
def scored (n : Nat) (s : State) : State :=
  scanning { s with acc.hours := 2500, mon := { s.mon with sFloat := n, sFloatValid := true } }

/-- A deficit of 60,000 µL, at the threshold. -/
def thirsty (s : State) : State := scanning { s with acc.gassing := 6428572 }

/-- Scores of 500 and 495 in FLOAT; the thresholds of watering need and of the temperature windows. -/
theorem witness_FloatDecides :
    (scored 50 node).scn.scanEnds = some 20002040 ∧ (scored 50 node).rnd.round = .float ∧
      (run (.sampleSet (goodScan 0)) (scored 50 node)).acc.presentedScore = 500 ∧
      (run (.sampleSet (goodScan 0)) (scored 50 node)).rnd.round = .due ∧
      (run (.sampleSet (goodScan 0)) (scored 49 node)).rnd.round = .float ∧
      (run (.sampleSet (scan 0xA5C9 2230 0 400 231 0)) (scored 50 node)).rnd.round = .due ∧
      (run (.sampleSet (scan 0xA5C9 2230 0 401 231 0)) (scored 50 node)).rnd.round = .float ∧
      (run (.sampleSet (goodScan 0)) (thirsty node)).rnd.round = .waterDue ∧
      (run (.sampleSet (goodScan 0)) (scanning { node with acc.gassing := 6428571 })).rnd.round = .float := by
  decide +kernel

/-- Scores of 450 and 445 in DUE, with and without the peers a claim needs. -/
theorem witness_DueClaims :
    let due : State := { node with rnd.round := .due }
    (scored 40 due).rnd.round = .due ∧ (scored 40 due).scn.scanEnds = some 20002040 ∧
      (run (.sampleSet (goodScan 0)) (scored 39 due)).rnd.round = .float ∧
      (run (.sampleSet (goodScan 0)) (scored 40 due)).rnd.round = .due ∧
      (run (.sampleSet (goodScan 0)) (scored 40 (withPeers due))).clm.eq.state = .queued ∧
      (run (.sampleSet (goodScan 0)) (scored 40 { due with ptb := [1, 2].map peer })).clm.eq.share = 250 ∧
      (run (.sampleSet (goodScan 0)) (scored 40 { due with ptb := [1].map peer })).clm.eq.state = .none := by
  decide +kernel

theorem witness_WaterDueClaims :
    let due : State := { node with rnd.round := .waterDue }
    let taken : State :=
      { due with ptb := [{ peer 6 with waterClaim := some { tag := 41, snapshot := 610, phase := .held } }] }
    (thirsty due).rnd.round = .waterDue ∧ (thirsty due).scn.scanEnds = some 20002040 ∧
      (run (.sampleSet (goodScan 0)) (scanning due)).rnd.round = .float ∧
      (run (.sampleSet (goodScan 0)) (thirsty due)).clm.water.snapshot = 600 ∧
      (run (.sampleSet (goodScan 0)) (thirsty taken)).rnd.round = .waterDue := by decide +kernel

/-- The upper limits of the two temperature windows, claims QUEUED and CONTENDING. -/
theorem witness_ClaimingLosesFitness :
    (scanning queued).scn.scanEnds = some 20002040 ∧ (scanning queued).rnd.round = .claiming ∧
      (run (.sampleSet (scan 0xA5C9 2230 0 400 231 0)) (scanning queued)).rnd.round = .claiming ∧
      (run (.sampleSet (scan 0xA5C9 2230 0 401 231 0)) (scanning queued)).clm.eq.state = .none ∧
      (run (.sampleSet (scan 0xA5C9 2230 0 401 231 0)) (scanning contending)).clm.eq.state = .releasing ∧
      (run (.sampleSet (scan 0xA5C9 2230 0 450 231 0)) (scanning waterQueued)).rnd.round = .waterClaiming ∧
      (run (.sampleSet (scan 0xA5C9 2230 0 451 231 0)) (scanning waterQueued)).clm.water.state = .none ∧
      (run (.sampleSet (scan 0xA5C9 2230 0 451 231 0)) (scanning waterContending)).clm.water.state = .releasing := by
  decide +kernel

/-- EQUALISING with these timers. -/
def worked (elapsed band : Nat) : State :=
  scanning { equalising with rnd := { equalising.rnd with elapsed := elapsed, bandTimer := band } }

/-- Each end of a round at its limit, and one second before it. -/
theorem witness_EqualisingSampleEnds :
    (worked 7199 3599).scn.scanEnds = some 20002040 ∧ (worked 7199 3599).rnd.round = .equalising ∧
      (worked 7199 3599).rnd.record = some openRound ∧ openRound.outcome = none ∧
      (run (.sampleSet (goodScan 50)) (worked 7199 3599)).rnd.round = .transferBack ∧
      (run (.sampleSet (goodScan 50)) (worked 7198 3599)).rnd.round = .soak ∧
      (run (.sampleSet (goodScan 50)) (worked 7199 3598)).rnd.round = .soak ∧
      (run (.sampleSet (goodScan 51)) (worked 43199 3599)).rnd.round = .transferBack ∧
      (run (.sampleSet (goodScan 51)) (worked 43198 3599)).rnd.round = .equalising := by decide +kernel

theorem witness_EqualisingSampleEnds_aborts :
    (run (.sampleSet (goodScan 50)) { worked 9 0 with scn.current := stale 0 }).rnd.record.bind OpenRecord.cause =
        some .currentStale ∧
      (run (.sampleSet (scan 0xA5C9 2230 50 451 231 0)) (worked 9 0)).rnd.record.bind OpenRecord.cause =
        some .temperature ∧
      (run (.sampleSet (scan 0xA5C9 2230 50 450 231 0)) (worked 9 0)).rnd.round = .soak ∧
      (run (.sampleSet (goodScan 50))
        { worked 9 0 with scn.pilot := stale 0, scn.ambient := stale 0 }).rnd.round = .transferBack := by
  decide +kernel

/-- A normal step, a fold-back, the step's limits and the duty's. -/
theorem witness_RegulatorSteps :
    (scanning equalising).rnd.round = .equalising ∧
      (run (.sampleSet (goodScan 132)) (scanning equalising)).rnd.duty = 381 ∧
      (run (.sampleSet (scan 0xA5C9 2451 132 231 231 0)) (scanning equalising)).mon.foldBack = true ∧
      (run (.sampleSet (scan 0xA5C9 2451 132 231 231 0)) (scanning equalising)).rnd.duty = 308 ∧
      (run (.sampleSet (goodScan 381)) (scanning equalising)).rnd.duty = 320 ∧
      (run (.sampleSet (goodScan 381)) (scanning { equalising with rnd.duty := 31 })).rnd.duty = 0 ∧
      (run (.sampleSet (goodScan 0)) (scanning { equalising with rnd.duty := 1000 })).rnd.duty = 1023 := by
  decide +kernel

/-- Section 8.10 at 1:19:58 and 1:19:59: the run reaches 600, the average is 118. -/
theorem witness_ShareReduces :
    let s (run : Nat) := scanning { equalising with
      clm := { equalising.clm with history := List.replicate 60 118, lowRun := run } }
    (s 599).scn.scanEnds = some 20002040 ∧ (run (.sampleSet (goodScan 118)) (s 599)).clm.eq.share = 148 ∧
      (run (.sampleSet (goodScan 118)) (s 598)).clm.eq.share = 250 ∧
      (run (.sampleSet (goodScan 125)) (s 599)).clm.lowRun = 0 ∧
      (run (.sampleSet (goodScan 118)) (scanning node)).clm.history = [] ∧
      (run (.sampleSet (goodScan 118)) (scanning equalising)).clm.history = [118] := by decide +kernel

theorem witness_PrepareAndReturnSamples :
    (scanning preparing).rnd.round = .prepare ∧ (scanning preparing).rnd.record = some openRound ∧
      (run (.sampleSet (goodScan 0)) { scanning preparing with scn.current := stale 0 }).rnd.round = .float ∧
      (run (.sampleSet (scan 0xA5C9 2230 0 450 231 0)) (scanning preparing)).rnd.round = .prepare ∧
      (run (.sampleSet (scan 0xA5C9 2230 0 451 231 0)) (scanning preparing)).rnd.round = .float ∧
      (scanning goingBack).rnd.round = .transferBack ∧ (scanning goingBack).rnd.currentWait.isSome = true ∧
      (run (.sampleSet (goodScan 10)) (scanning goingBack)).rnd.transferFrom.isSome = true ∧
      (run (.sampleSet (goodScan 11)) (scanning goingBack)).rnd.currentWait.isSome = true := by decide +kernel

/-! ### Witnesses: the line -/

/-- An own attempt with a notice. -/
def sending (k : NoticeKey) (s : State) : State :=
  { s with lin.attempt := some { notice := k, frame := noticeFrame (buildNotice s k), start := 20000000 } }

theorem witness_LineListening :
    node.cfg.mode ≠ .starting ∧ node.lin.attempt = none ∧ State.reset.cfg.mode = .starting ∧
      (sending .status node).lin.attempt.isSome = true := by decide +kernel

/-- The line falls idle 625 µs after a frame's end or a break and not at 624 µs; at the frame's end the timer shows 0. -/
theorem witness_LineListening_idle :
    let s : State := run (.frameDiscarded 0) node
    let u : State := run (.lineBreak 0) node
    s.lin.idle = .counting 20000000 ∧ (run (.lineIdle 624) s).lin.assembler = .hunt ∧
      (run (.lineIdle 625) s).lin.idle = .full 20000625 ∧ (run (.lineIdle 625) s).idleTimer = 12 ∧
      u.lin.idle = .counting 20000000 ∧ (run (.lineIdle 624) u).lin.idle = u.lin.idle ∧
      (run (.frameDiscarded 5) s).lin.idle = s.lin.idle ∧ s.lin.assembler = .hunt := by decide +kernel

/-- The length byte 25 ends in a 1 bit and the stop bit, 255 in nine recessive bits; 24 abandons no frame. The line falls
idle 12 bit times after the last dominant bit: 520 µs after the first byte, 156 µs after the second. -/
theorem witness_LineListening_abandoned :
    let s (b : Byte) : State := run (.frameAbandoned { after := 0, length := b }) node
    (s 25#8).lin.idle = .tail 19999895 20000000 ∧ (s 255#8).lin.idle = .tail 19999531 20000000 ∧ s 24#8 = node ∧
      (s 25#8).idleTimer = 2 ∧ (s 255#8).idleTimer = 9 ∧
      (run (.lineIdle 519) (s 25#8)).lin.assembler = .hunt ∧ (run (.lineIdle 520) (s 25#8)).lin.assembler = .ready ∧
      (run (.lineIdle 156) (s 255#8)).lin.assembler = .ready := by decide +kernel

theorem witness_RecessiveEnd : RecessiveEnd 25#8 2 ∧ RecessiveEnd 255#8 9 ∧ RecessiveEnd 24#8 1 :=
  ⟨⟨1, rfl, by decide, by decide, by decide⟩, ⟨8, rfl, by decide, by decide, by decide⟩,
    ⟨0, rfl, by decide, by decide, by decide⟩⟩

theorem witness_FailuresIsolate :
    let s (n : Nat) : State := { node with clm.statusQueued := true, lin.retry := n }
    (s 7).lin.attempt = none ∧ (s 7).nextNotice = some .status ∧ (run (.dominantCount 0) (s 7)).cfg.mode = .isolated ∧
      (run (.dominantCount 0) (s 6)).lin.retry = 7 ∧ node.nextNotice = none ∧
      (run (.bitError 0) (sending .status (s 6))).lin.retry = 7 ∧
      (run (.bitError 0) (sending .recovery { s 0 with cfg.mode := .isolated, lin.recovering := true })).lin.recovering =
        false := by decide +kernel

/-- The bits of a Status of node 3 (header 0xC3): the start bit 0, the recessive bits 1 and 8, the dominant bit 3, and the
stop bit 9. Only the recessive data bits lose, every other fails. -/
theorem witness_BitsOfTheHeader :
    let s := sending .status { node with clm.statusQueued := true }
    (s.lin.attempt.bind fun a => (frameBits a.frame)[8]?) = some true ∧
      (∀ t ∈ [53, 468], (run (.arbitrationLost t) s).lin.attempt = none ∧ (run (.bitError t) s).lin.retry = 0 ∧
        (run (.bitError t) s).lin.attempt.isSome = true) ∧
      (∀ t ∈ [0, 52, 157, 469], (run (.arbitrationLost t) s).lin.attempt.isSome = true ∧
        (run (.bitError t) s).lin.attempt = none ∧ (run (.bitError t) s).lin.retry = 1) ∧
      (run (.arbitrationLost 9000000) s).lin.attempt.isSome = true ∧
      (run (.bitError 9000000) s).lin.attempt.isSome = true := by decide +kernel

/-- A start bit that reads recessive at its middle is no start bit, and the assembler waits for one again; past it the
assembler goes on with the byte it has begun, and an attempt that begins in HUNT leaves it there. -/
theorem witness_StartBitFails :
    let s (b : Assembler) : State := run (.attemptStart 0) { node with clm.statusQueued := true, lin.assembler := b }
    (s .ready).lin.assembler = .frame ∧ (run (.bitError 26) (s .ready)).lin.assembler = .ready ∧
      (run (.bitError 26) (s .ready)).lin.attempt = none ∧ (run (.bitError 26) (s .ready)).lin.retry = 1 ∧
      (run (.bitError 157) (s .ready)).lin.assembler = .frame ∧ (run (.bitError 157) (s .ready)).lin.retry = 1 ∧
      (run (.bitError 26) (s .hunt)).lin.assembler = .hunt := by decide +kernel

theorem witness_AttemptStarts :
    let s : State := { node with clm.statusQueued := true, clm.eq := claim .queued, clm.water := claim .releasing }
    s.lin.attempt = none ∧ (s.elapse 0).idleTimer = 12 ∧ s.nextNotice = some (.release .water 7) ∧ s.cfg.mode = .run ∧
      s.lin.idle = .full 20000000 ∧ s.now + 0 ≤ 20000000 ∧ (run (.attemptStart 0) s).lin.attempt.isSome = true ∧
      State.nextNotice { s with lin.recovering := true } = some .recovery ∧
      State.nextNotice { s with cfg.mode := .silent } = none ∧ (sending .status node).lin.attempt.isSome = true ∧
      (State.reset.elapse 0).idleTimer ≠ 12 := by decide +kernel

/-- The node that finds the line dominant when it would begin does not begin, and one that finds it recessive for 12 bit
times does: both rest on the free value alone. -/
theorem witness_AttemptStarts_line :
    let s : State := { node with clm.statusQueued := true }
    (Config.lineRun 0 20000001 = 0 → run (.attemptStart 1) s = s.elapse 1) ∧
      (12 ≤ Config.lineRun 0 20000001 → (run (.attemptStart 1) s).lin.attempt.isSome = true) := by
  intro s
  have e : s.engine = .waiting ∧ (s.elapse 1).lin.attempt = none ∧ (s.elapse 1).cfg.mode ≠ .starting ∧
      (s.elapse 1).lin.idle = .full 20000000 ∧ (s.elapse 1).nextNotice = some .status := by decide +kernel
  have i := idleTimer_eq_twelve e.2.1
  refine ⟨fun h => ?_, fun h => ?_⟩
  · have : ¬ (s.elapse 1).idleTimer = 12 := by
      rw [i]
      rintro ⟨-, x, hx, hy | hy⟩
      · rw [e.2.2.2.1] at hx; cases hx; exact absurd hy (by decide)
      · exact absurd (hy.trans_eq h) (by decide)
    simp only [run, exec, execAttemptStart, this, and_false, if_false]
  · have : (s.elapse 1).idleTimer = 12 := i.2 ⟨e.2.2.1, _, e.2.2.2.1, .inr h⟩
    simp only [run, exec, execAttemptStart, this, e.2.2.2.2, show (s.elapse 1).engine = .waiting from e.1, and_self, if_true]
    rfl

theorem witness_AttemptCompletes :
    (sending (.release .eq 7) { node with clm.eq := claim .releasing }).clm.eq.state = .releasing ∧
      (sending (.claim .eq 7) queued).clm.eq = claim .queued ∧
      (run .attemptComplete (sending (.claim .eq 7) queued)).clm.eq.state = .contending ∧
      (run .attemptComplete (sending (.claim .eq 7) node)).clm.eq.state = .releasing ∧
      (run .attemptComplete (sending (.claim .eq 7) contending)).clm.eq = contending.clm.eq ∧
      (sending .report node).lin.attempt.map Attempt.notice = some .report ∧
      (sending .status node).lin.attempt.map Attempt.notice = some .status ∧
      (run .attemptComplete
        (sending .recovery { node with cfg.mode := .isolated, lin.recovering := true })).cfg.mode = .joining := by
  decide +kernel

/-- A failure counted while a second Status waits is gone when it is sent: it is not the notice of the attempt before. -/
theorem witness_AttemptCompletes_retry :
    let sent := run .attemptComplete (sending .status { node with lin.lastNotice := some .status })
    let again : State := { sent with clm.statusQueued := true, lin.retry := 1, lin.idle := .full sent.now }
    sent.lin.lastNotice = none ∧ sent.lin.retry = 0 ∧ (run (.attemptStart 0) again).lin.retry = 0 ∧
      (run (.attemptStart 0) again).lin.attempt.isSome = true := by decide +kernel

theorem witness_NoticesRoundTrip :
    (Notice.directive 24 1#8 65535).Fits 24 ∧ (Notice.release 24 0xFF#8 0xFF#8 0xFF#8).Fits 24 ∧
      (Notice.claim 1 1#8 1#8 65535 65535).Fits 24 ∧ (Notice.report 24 (List.replicate 24 0#8)).Fits 24 ∧
      (Notice.status 6 (ownStatus equalising)).Fits 6 :=
  ⟨⟨by decide, by decide⟩, ⟨by decide, by decide⟩, ⟨by decide, by decide, by decide, by decide⟩,
    ⟨by decide, by decide, by decide⟩, by
      refine ⟨by decide, by decide, by decide +kernel, by decide, by decide, fun p h => ?_, fun p h => ?_⟩
      · cases h; decide
      · cases h⟩

theorem witness_OwnNoticesAreTaken : ∃ s, ValuesInRange s ∧ s.nextNotice = some .status ∧ 1 ≤ s.address ∧
    s.address ≤ s.cfg.config.nSite :=
  ⟨{ node with clm.statusQueued := true }, node_values_with _ _, by decide, by decide, by decide⟩

theorem witness_OwnNoticesAreTaken_keys :
    queued.nextNotice = some (.claim .eq 7) ∧
      State.nextNotice { node with clm.eq := claim .releasing } = some (.release .eq 7) ∧
      State.nextNotice { node with clm.reportQueued := true } = some .report ∧
      State.nextNotice { node with lin.recovering := true } = some .recovery := by decide

/-- The Status of a HELD claim (RUN, EQUALISING, restarted), and a Report: charge 18000000 / 360, hours 258, a last round
ABORTED by STOP after 300 minutes, restarted. -/
theorem witness_OwnNoticesAreTaken_contents :
    ownStatus { equalising with acc.discharging := true } =
        { mode := 2#8, round := 5#8, flags := 0x4100#16, score := 0, urgency := 0
          eqPart := some { tag := 7#8, phase := 2#8, share := 250, snapshot := 623 }, waterPart := none } ∧
      (ownStatus contending).eqPart = some { tag := 7#8, phase := 1#8, share := 250, snapshot := 623 } ∧
      (ownStatus queued).eqPart = none ∧
      ownReport { node with
          acc.hours := 258, rnd.lastEq := some { outcome := .aborted, cause := some .stop, minutes := 300 } } =
        [0#8, 0xC3#8, 0x50#8, 0#8, 0#8, 0#8, 0#8, 0#8, 1#8, 2#8, 0#8, 0#8, 0#8, 0#8, 0#8, 0#8, 0x36#8, 1#8, 0x2C#8,
          0#8, 0#8, 0#8, 0x10#8, 0#8] := by decide +kernel

theorem witness_FramesAreHeard :
    State.reset.cfg.mode = .starting ∧ node.cfg.mode ≠ .starting ∧
      State.reset.lin.assembler = .hunt ∧
      node.lin.assembler ≠ .hunt ∧ decodeNotice 6 [] = none ∧
      decodeNotice node.cfg.config.nSite (noticeFrame (.release 3 1#8 1#8 1#8)) = some (.release 3 1#8 1#8 1#8) ∧
      (Notice.release 3 1#8 1#8 1#8).source = node.address := by decide +kernel

/-- A frame that ends in 25 and comes in HUNT leaves the line two bit times recessive: idle 520 µs later. -/
theorem witness_FramesAreHeard_hunt :
    let s : State := run (.query 0 [0#8, 25#8]) { node with lin.assembler := .hunt }
    s.idleTimer = 2 ∧ s.lin.idle = .tail 19999895 20000000 ∧ (run (.lineIdle 519) s).lin.assembler = .hunt ∧
      (run (.lineIdle 520) s).lin.assembler = .ready ∧
      (run (.query 0 []) { node with lin.assembler := .hunt }).lin.idle = .tail 20000000 20000000 := by decide +kernel

/-! ### Witnesses: the notices of peers -/

/-- The Status of a peer that works with an EQ claim of this phase, tag 12 and share 250. -/
def peerStatus (phase : Byte) (snapshot : Nat) : StatusBody :=
  { mode := 2#8, round := 5#8, flags := 0#16, score := 0, urgency := 0
    eqPart := some { tag := 12#8, phase := phase, share := 250, snapshot := snapshot }, waterPart := none }

/-- The Status of a peer that waters with a WATER claim, tag 12. -/
def peerWatering (snapshot : Nat) : StatusBody :=
  { mode := 2#8, round := 11#8, flags := 0x8000#16, score := 0, urgency := 0, eqPart := none
    waterPart := some { tag := 12#8, phase := 2#8, snapshot := snapshot } }

theorem status_acceptable (b : StatusBody) (h : b = peerStatus 2#8 1000 ∨ b = peerStatus 2#8 640) : b.Acceptable := by
  rcases h with rfl | rfl <;>
    exact ⟨by decide, by decide, by decide, by decide, (fun p h => by cases h; decide), (fun p h => by cases h)⟩

theorem hears_status : Hears node (noticeFrame (.status 5 (peerStatus 2#8 1000))) (.status 5 (peerStatus 2#8 1000)) :=
  ⟨by decide, by decide, by decide +kernel, by decide⟩

theorem witness_StatusNotices : (peerStatus 2#8 1000).Acceptable ∧
    Hears node (noticeFrame (.status 5 (peerStatus 2#8 1000))) (.status 5 (peerStatus 2#8 1000)) ∧
    (∀ r, (node.clm.machine r).state = .none ∨ (node.clm.machine r).state = .releasing) :=
  ⟨status_acceptable _ (.inl rfl), hears_status, fun r => by cases r <;> exact .inl rfl⟩

theorem witness_StatusNotices_refused : ¬ (peerStatus 2#8 1001).Acceptable ∧
    Hears node (noticeFrame (.status 5 (peerStatus 2#8 1001))) (.status 5 (peerStatus 2#8 1001)) :=
  ⟨fun h => absurd (h.eqPart _ rfl).2.2 (by decide), by decide, by decide, by decide +kernel, by decide⟩

/-- Section 7.14: a peer's HELD claim beats a QUEUED and a CONTENDING one whatever its snapshot; without conflict, and of a
CONTENDING one that is outranked, nothing comes. -/
theorem witness_StatusNotices_loses :
    let c (phase : Byte) (n : Nat) := Instr.statusNotice 0 (noticeFrame (.status 5 (peerStatus phase n)))
    (run (c 2#8 100) (withPeers queued)).rnd.round = .due ∧
      (run (c 2#8 100) (withPeers queued)).clm.eqBackOff = some 36000000 ∧
      (run (c 2#8 100) (withPeers contending)).clm.eq.state = .releasing ∧
      (run (c 1#8 700) (withPeers contending)).clm.eq.reason = .withdrawn ∧
      (run (c 1#8 623) (withPeers contending)).clm.eq.state = .contending ∧
      (run (c 2#8 100) (withPeers { queued with cfg.config.eBus := 600 })).clm.eq.state = .queued ∧
      (run (c 1#8 700) equalising).clm.eq.yielding = false := by decide +kernel

/-- A Claim of node 5 for EQ with this snapshot. -/
def peerClaim (snapshot : Nat) : Notice := .claim 5 1#8 12#8 snapshot 250

theorem hears_claim : Hears (withPeers queued) (noticeFrame (peerClaim 700)) (peerClaim 700) ∧
    Hears (withPeers contending) (noticeFrame (peerClaim 700)) (peerClaim 700) ∧
    Hears (withPeers queued) (noticeFrame (peerClaim 1001)) (peerClaim 1001) :=
  ⟨⟨by decide, by decide, by decide +kernel, by decide⟩, ⟨by decide, by decide, by decide +kernel, by decide⟩,
    ⟨by decide, by decide, by decide +kernel, by decide⟩⟩

/-- Section 7.14: node 3's claim of 623 loses to one of 700 while QUEUED and while CONTENDING, not to one of 580. -/
theorem witness_ClaimNotices :
    findPeer (withPeers queued).ptb 5 = some (peer 5) ∧ Outranks 700 5 623 3 ∧ ¬ Outranks 623 5 623 3 ∧
      (run (.claimNotice 0 (noticeFrame (peerClaim 700))) (withPeers queued)).rnd.round = .due ∧
      (run (.claimNotice 0 (noticeFrame (peerClaim 700))) (withPeers contending)).clm.eq.state = .releasing ∧
      (run (.claimNotice 0 (noticeFrame (peerClaim 623))) (withPeers queued)).clm.eq.state = .queued := by
  unfold Outranks; decide +kernel

theorem witness_ClaimNotices_water :
    Hears waterQueued (noticeFrame (.claim 5 2#8 12#8 624 0)) (.claim 5 2#8 12#8 624 0) ∧
      (run (.claimNotice 0 (noticeFrame (.claim 5 2#8 12#8 624 0))) waterQueued).rnd.round = .waterDue :=
  ⟨⟨by decide, by decide, by decide +kernel, by decide⟩, by decide +kernel⟩

theorem witness_ReleaseAndReportNotices :
    let s : State :=
      { node with ptb := [{ peer 5 with eqClaim := some { tag := 12, share := 250, snapshot := 640, phase := .held } }] }
    Hears s (noticeFrame (.release 5 1#8 12#8 4#8)) (.release 5 1#8 12#8 4#8) ∧
      Hears s (noticeFrame (.release 5 1#8 12#8 5#8)) (.release 5 1#8 12#8 5#8) ∧
      Hears s (noticeFrame (.report 4 (List.replicate 24 0#8))) (.report 4 (List.replicate 24 0#8)) ∧
      RecordRenewed s.ptb 4 (newPeer 4) :=
  ⟨⟨by decide, by decide, by decide +kernel, by decide⟩, ⟨by decide, by decide, by decide +kernel, by decide⟩,
    ⟨by decide, by decide, by decide +kernel, by decide⟩, fun q h => (by cases h), fun _ => rfl⟩

/-- Section 7.14: both claims HELD, 640 outranks 623; the own round yields in each of its phases. -/
theorem witness_HeldClaimsYield : (peerStatus 2#8 640).Acceptable ∧ Outranks 640 5 623 3 ∧
    Hears equalising (noticeFrame (.status 5 (peerStatus 2#8 640))) (.status 5 (peerStatus 2#8 640)) ∧
    equalising.clm.eq.state = .held ∧ equalising.clm.eq.yielding = false ∧ equalising.rnd.record = some openRound ∧
    RecordRenewed equalising.ptb 5 (newPeer 5) ∧ (newPeer 5).eqClaim = none :=
  ⟨status_acceptable _ (.inr rfl), by unfold Outranks; decide, ⟨by decide, by decide, by decide +kernel, by decide⟩,
    rfl, rfl, rfl, ⟨fun q h => (by cases h), fun _ => rfl⟩, rfl⟩

theorem witness_HeldClaimsYield_phases :
    let c := Instr.statusNotice 0 (noticeFrame (.status 5 (peerStatus 2#8 640)))
    (run c equalising).rnd.round = .transferBack ∧ (run c preparing).rnd.round = .float ∧
      (run c movingOut).rnd.deferred = some .yield ∧ (run c stuck).clm.eq.yielding = true ∧
      (run (.statusNotice 0 (noticeFrame (.status 5 (peerStatus 2#8 623)))) equalising).rnd.round = .equalising := by
  decide +kernel

theorem witness_HeldClaimsYield_water :
    Hears watering (noticeFrame (.status 5 (peerWatering 640))) (.status 5 (peerWatering 640)) ∧
      watering.clm.water.state = .held ∧ watering.rnd.round = .watering ∧ watering.rnd.record = some openWatering ∧
      (run (.statusNotice 0 (noticeFrame (.status 5 (peerWatering 640)))) watering).rnd.round = .float :=
  ⟨⟨by decide, by decide, by decide +kernel, by decide⟩, rfl, rfl, rfl, by decide +kernel⟩

theorem witness_RankDecides : outranks .held 0 9 .contending 1000 1 = true ∧
    outranks .contending 700 9 .contending 623 3 = true ∧ outranks .held 623 3 .held 623 5 = true ∧ (3 : Nat) ≠ 5 ∧
    claimPending contending.clm.eq.state ∧ eqConflict contending (newPeer 5)
      { tag := 12, share := 250, snapshot := 640, phase := .contending } = true :=
  ⟨by decide, by decide, by decide, by decide, .inr rfl, by decide⟩


/-! ### Witnesses: the contention window -/

/-- A table with this many peers unclaimed and a committed share. -/
def table (free share : Nat) : List PeerRecord :=
  (List.range free).map (fun i => peer (i + 4)) ++
    [{ peer 20 with eqClaim := some { tag := 1, share := share, snapshot := 600, phase := .contending } }]

/-- The hold check at its limits: R_min + 1 = 3 unclaimed with the own string, 150 committed beside the share of 250. -/
theorem witness_EqHoldIsChecked :
    contending.clm.eq.windowTimer = some 24000000 ∧ contending.clm.eq.state = .contending ∧
      contending.rnd.round = .claiming ∧
      (run (.contentionWindowExpiry .eq) { contending with ptb := table 2 150 }).clm.eq.state = .held ∧
      (run (.contentionWindowExpiry .eq) { contending with ptb := table 1 150 }).clm.eq.state = .releasing ∧
      (run (.contentionWindowExpiry .eq) { contending with ptb := table 2 151 }).clm.eq.state = .releasing ∧
      (run (.contentionWindowExpiry .eq) { contending with ptb := table 2 150 }).rnd.round = .prepare ∧
      (run (.contentionWindowExpiry .eq)
        { contending with ptb := table 2 150, fld.crdy.active := true }).rnd.round = .transferOut ∧
      (run (.contentionWindowExpiry .eq) { contending with ptb := table 2 150, cfg.hold := true }).rnd.round =
        .due := by decide

theorem witness_WaterHoldIsChecked :
    waterContending.clm.water.windowTimer = some 24000000 ∧ waterContending.clm.water.state = .contending ∧
      waterContending.rnd.round = .waterClaiming ∧ waterContending.wat.groups.length = 8 ∧
      (run (.contentionWindowExpiry .water) { waterContending with acc.deficit := 61000 }).wat.valve = some 0 ∧
      (run (.contentionWindowExpiry .water) waterContending).rnd.round = .float ∧
      (run (.contentionWindowExpiry .water) { waterContending with
        ptb := [{ peer 6 with waterClaim := some { tag := 41, snapshot := 610, phase := .held } }] }).rnd.round =
          .waterDue := by decide +kernel

/-! ### Witnesses: the site panel -/

theorem hears_directives : Hears node (directiveFrame 0 1 60) (.directive 0 1#8 60) ∧
    Hears node (directiveFrame 3 2 0) (.directive 3 2#8 0) ∧ Hears node (directiveFrame 0 3 0) (.directive 0 3#8 0) ∧
    Hears node (directiveFrame 0 4 0) (.directive 0 4#8 0) ∧ Hears stuck (directiveFrame 0 5 0) (.directive 0 5#8 0) ∧
    Hears node (directiveFrame 3 6 0) (.directive 3 6#8 0) ∧ Hears node (directiveFrame 4 1 60) (.directive 4 1#8 60) :=
  ⟨⟨by decide, by decide, by decide +kernel, by decide⟩, ⟨by decide, by decide, by decide +kernel, by decide⟩,
    ⟨by decide, by decide, by decide +kernel, by decide⟩, ⟨by decide, by decide, by decide +kernel, by decide⟩,
    ⟨by decide, by decide, by decide +kernel, by decide⟩, ⟨by decide, by decide, by decide +kernel, by decide⟩,
    ⟨by decide, by decide, by decide +kernel, by decide⟩⟩

/-- Holds of 1440 and 1441 minutes, of 0, and at a claim of each kind. -/
theorem witness_HoldSetsAndEnds :
    (run (.hold 0 (directiveFrame 0 1 1440)) node).cfg.holdTimer = some 86420000000 ∧
      (run (.hold 0 (directiveFrame 3 1 1441)) node).cfg.holdTimer = some 86420000000 ∧
      (run (.hold 0 (directiveFrame 0 1 0)) { node with cfg.hold := true, cfg.holdTimer := some 30000000 }).cfg.hold =
        false ∧
      (run (.hold 0 (directiveFrame 0 1 1)) queued).rnd.round = .due ∧
      (run (.hold 0 (directiveFrame 0 1 1)) contending).clm.eq.state = .releasing ∧
      (run (.hold 0 (directiveFrame 0 1 1)) waterContending).rnd.round = .waterDue ∧
      (run (.hold 0 (directiveFrame 0 1 1)) equalising).clm.eq.state = .held ∧
      (run (.hold 0 (directiveFrame 0 1 1)) { node with cfg.mode := .silent }).cfg.hold = false ∧
      node.cfg.holdTimer = none := by decide +kernel

theorem witness_StopActsByState :
    let c := Instr.stop 0 (directiveFrame 3 2 0)
    (run c { node with rnd.round := .due }).clm.eqBackOff = some 36000000 ∧ (run c queued).rnd.round = .float ∧
      (run c contending).clm.eq.state = .releasing ∧ (run c waterQueued).clm.water.state = .none ∧
      (run c preparing).rnd.round = .float ∧ (run c movingOut).rnd.deferred = some .stop ∧
      (run c equalising).rnd.round = .transferBack ∧ (run c watering).rnd.round = .float ∧
      (run c stuck).rnd.round = .stuck ∧ (run c { node with cfg.mode := .silent }).clm.statusQueued = false := by
  decide +kernel

theorem witness_ForcesClearsAndQueries :
    (run (.forceEq 0 (directiveFrame 0 3 0)) node).acc.forceEq = true ∧
      (run (.forceWater 0 (directiveFrame 0 4 0)) node).acc.forceWater = true ∧
      (run (.query 0 (directiveFrame 3 6 0)) node).clm.reportQueued = true ∧
      (run (.clear 0 (directiveFrame 0 5 0)) stuck).rnd.round = .transferBack ∧
      (run (.clear 0 (directiveFrame 0 5 0))
        { node with rnd := { node.rnd with round := .inhibited, inhibit := true } }).rnd.round = .float ∧
      (run (.clear 0 (directiveFrame 0 5 0)) { node with wat.dry := true }).wat.dry = false ∧
      (run (.clear 0 (directiveFrame 0 5 0)) node).clm.statusQueued = false ∧
      (run (.forceEq 0 (directiveFrame 0 3 0)) { node with cfg.mode := .joining }).acc.forceEq = false := by
  decide +kernel

/-! ### Witnesses: timers and moves -/

theorem witness_TimersExpire :
    node.clm.statusTimer = some 30000000 ∧ State.reset.clm.statusTimer = none ∧ node.cfg.joiningTimer = none ∧
      (let s : State := { node with cfg.joiningTimer := some 21000000, clm.eqBackOff := some 21000000 }
       s.cfg.joiningTimer = some 21000000 ∧ s.clm.backOff .eq = some 21000000 ∧ s.clm.backOff .water = none) ∧
      (let s : State :=
        { node with lin.isolationTimer := some 21000000, wat.dryTimer := some 21000000
                    rnd := { node.rnd with round := .rest, restPeriod := some 21000000 } }
       s.lin.isolationTimer = some 21000000 ∧ s.wat.dryTimer = some 21000000 ∧ s.rnd.restPeriod = some 21000000 ∧
         s.rnd.round = .rest) ∧
      watering.wat.earlyLimit = some 20200000 ∧ State.reset.now < State.reset.fld.pwmStart + 2048 ∧
      node.fld.pwmStart + 2048 ≤ node.now := by decide

/-- Both sides of the 2048 µs at which the periods are caught up. -/
theorem witness_TimersExpire_pwm :
    (run .pwmPeriodStart { node with now := 2047 }).fld.pwmStart = 1024 ∧
      (run .pwmPeriodStart { node with now := 2048 }).fld.pwmStart = 2048 := by decide

theorem edge_comes (s : State) (i : LevelInput) (h : (s.fld.withLine i
      { pinHigh := true, active := false, timer := some 20010000 }).line i =
        { pinHigh := true, active := false, timer := some 20010000 })
    (hi : inputInverted s.cfg.config i = false) : EdgeComes (edgeComing i true s) i 20010000 true := by
  have hl : ((edgeComing i true s).fld.line i) = { pinHigh := true, active := false, timer := some 20010000 } := h
  refine ⟨by rw [hl], ?_, by rw [hl]; rfl⟩
  rw [hl]
  show xor true (inputInverted s.cfg.config i) = true
  rw [hi]; rfl

theorem edge_goes (s : State) (i : LevelInput) (h : (s.fld.withLine i
      { pinHigh := false, active := true, timer := some 20010000 }).line i =
        { pinHigh := false, active := true, timer := some 20010000 })
    (hi : inputInverted s.cfg.config i = false) : EdgeComes (edgeComing i false s) i 20010000 false := by
  have hl : ((edgeComing i false s).fld.line i) = { pinHigh := false, active := true, timer := some 20010000 } := h
  refine ⟨by rw [hl], ?_, by rw [hl]; rfl⟩
  rw [hl]
  show xor false (inputInverted s.cfg.config i) = false
  rw [hi]; rfl

/-- An edge 15 ms and 14.999 ms after the command; each deferred cause. -/
theorem witness_MoveOutIsJudged :
    EdgeComes (edgeComing .crdy true preparing) .crdy 20010000 true ∧ preparing.rnd.record = some openRound ∧
      EdgeComes (edgeComing .crdy false movingOut) .crdy 20010000 false ∧
      EdgeComes (edgeComing .fb true movingOut) .fb 20010000 true ∧
      movingOut.rnd.transferFrom = some 20000000 ∧ movingOut.rnd.round = .transferOut :=
  ⟨edge_comes _ _ rfl rfl, rfl, edge_goes _ _ rfl rfl, edge_comes _ _ rfl rfl, rfl, rfl⟩

theorem witness_MoveOutIsJudged_limits :
    let c := Instr.stabilityTimerExpiry .fb
    (run c (edgeComing .fb true { movingOut with now := 20015000 })).rnd.round = .equalising ∧
      (run c (edgeComing .fb true { movingOut with now := 20014999 })).rnd.round = .transferBack ∧
      (run c (edgeComing .fb true { movingOut with now := 20015000, rnd.deferred := some .stop })).rnd.record.bind
        OpenRecord.cause = some .stop ∧
      (run c (edgeComing .fb true { movingOut with now := 20015000, rnd.deferred := some .yield })).rnd.record.bind
        OpenRecord.outcome = some .yielded ∧
      (run c (edgeComing .fb true { movingOut with now := 20015000, rnd.deferred := some .chargerLost })).rnd.record.bind
        OpenRecord.cause = some .charger := by decide +kernel

/-- An edge at 250 ms, and one after it while the window's expiry waits (log entry 4); the expiry at 250 ms. -/
theorem witness_MoveOutIsJudged_late :
    let c := Instr.stabilityTimerExpiry .fb
    (run c (edgeComing .fb true { movingOut with now := 20250000 })).rnd.round = .equalising ∧
      (run c (edgeComing .fb true { movingOut with now := 20250001 })).rnd.round = .equalising ∧
      (run .transferWindowExpiry movingOut).rnd.round = .inhibited ∧
      (run .transferWindowExpiry { movingOut with fld.fb.active := true }).rnd.round = .transferBack := by decide +kernel

theorem witness_MoveBackIsJudged :
    EdgeComes (edgeComing .fb false returning) .fb 20010000 false ∧ returning.rnd.transferFrom = some 20000000 ∧
      returning.rnd.round = .transferBack ∧
      returning.rnd.record = some { openRound with outcome := some .complete } ∧
      EdgeComes (edgeComing .fb false recovering) .fb 20010000 false ∧ recovering.rnd.transferFrom = none ∧
      recovering.rnd.recoveryCheck = some { ends := 20250000, latches := false } ∧
      EdgeComes (edgeComing .fb false goingBack) .fb 20010000 false ∧ goingBack.rnd.recoveryCheck = none ∧
      goingBack.rnd.currentWait = some 25000000 :=
  ⟨edge_goes _ _ rfl rfl, rfl, rfl, rfl, edge_goes _ _ rfl rfl, rfl, rfl, edge_goes _ _ rfl rfl, rfl, rfl⟩

theorem witness_MoveBackIsJudged_limits :
    let c := Instr.stabilityTimerExpiry .fb
    (run c (edgeComing .fb false { returning with now := 20015000 })).rnd.round = .rest ∧
      (run c (edgeComing .fb false { returning with now := 20014999 })).rnd.round = .stuck := by decide +kernel

/-- The window's edge and the recovery check's edge at 250 ms, and their expiries there. -/
theorem witness_MoveBackIsJudged_late :
    let c := Instr.stabilityTimerExpiry .fb
    (run c (edgeComing .fb false { returning with now := 20250000 })).rnd.round = .rest ∧
      (run c (edgeComing .fb false { recovering with now := 20250000 })).rnd.record = none ∧
      (run .transferWindowExpiry { returning with fld.fb.active := true }).rnd.round = .stuck ∧
      (run .recoveryCheckExpiry { recovering with fld.fb.active := true }).rnd.round = .stuck := by decide +kernel

theorem witness_UncommandedEdges :
    EdgeComes (edgeComing .fb false equalising) .fb 20010000 false ∧ equalising.rnd.round = .equalising ∧
      EdgeComes (edgeComing .fb true preparing) .fb 20010000 true ∧ preparing.rnd.round = .prepare ∧
      EdgeComes (edgeComing .fb true node) .fb 20010000 true ∧ node.rnd.round = .float ∧
      EdgeComes (edgeComing .fb true queued) .fb 20010000 true ∧ queued.clm.eq.state = .queued ∧
      EdgeComes (edgeComing .fb true waterContending) .fb 20010000 true ∧
      EdgeComes (edgeComing .fb true watering) .fb 20010000 true :=
  ⟨edge_goes _ _ rfl rfl, rfl, edge_comes _ _ rfl rfl, rfl, edge_comes _ _ rfl rfl, rfl, edge_comes _ _ rfl rfl, rfl,
    edge_comes _ _ rfl rfl, edge_comes _ _ rfl rfl⟩

theorem witness_ChargerIsWatched :
    preparing.rnd.chargerWait = some 140000000 ∧ preparing.rnd.record = some openRound ∧
      EdgeComes (edgeComing .crdy false equalising) .crdy 20010000 false ∧
      EdgeComes (edgeComing .crdy true node) .crdy 20010000 true ∧
      EdgeComes (edgeComing .crdy false node) .crdy 20010000 false ∧ node.rnd.chargerWait = none ∧
      node.rnd.transferFrom = none ∧ node.rnd.recoveryCheck = none ∧ node.rnd.currentWait = none :=
  ⟨rfl, rfl, edge_goes _ _ rfl rfl, edge_comes _ _ rfl rfl, edge_goes _ _ rfl rfl, rfl, rfl, rfl, rfl⟩

/-! ### Witnesses: the field inputs and the dose pulses -/

/-- A change of an enabled input, of a disabled one, of one before the read; a level that came back. -/
theorem witness_LevelsAreConditioned :
    node.cfg.readEnded = true ∧ node.cfg.config.fbEnable = true ∧ (node.fld.line .fb).pinHigh ≠ true ∧
      node.cfg.config.probeEnable.getLsbD 0 = false ∧ node.cfg.config.groupCount ≤ 4 ∧
      State.reset.cfg.readEnded = false ∧ (node.fld.line .fb).timer = none ∧
      (let s : State := { node with fld.fb := { pinHigh := true, active := true, timer := some 20010000 } }
       (s.fld.line .fb).timer = some 20010000 ∧
         (s.fld.line .fb).active = xor (s.fld.line .fb).pinHigh (inputInverted s.cfg.config .fb)) := by decide

theorem witness_LevelsAreConditioned_probe :
    EdgeComes (edgeComing (.prb 1) true node) (.prb 1) 20010000 true ∧ node.wat.valve ≠ some 1 :=
  ⟨edge_comes _ _ (by decide) (by decide), by decide⟩

/-- The four changes of the pulse state, and a bounce that changes nothing. -/
theorem witness_FlowIsConditioned :
    let s (f : FlowState) (high : Bool) : State :=
      { node with fld := { node.fld with flow := f, flowTimer := some 21000000, flowPinHigh := high } }
    (run (.flowEdge 0 true) (s .armed false)).fld.flow = .qualifying ∧
      (run (.flowEdge 0 false) (s .qualifying true)).fld.flow = .armed ∧
      (run (.flowEdge 0 false) (s .spent true)).fld.flow = .rearming ∧
      (run (.flowEdge 0 true) (s .rearming false)).fld.flow = .spent ∧
      (run (.flowEdge 0 true) (s .spent false)).fld.flow = .spent ∧ (s .rearming false).fld.flowTimer = some 21000000 ∧
      node.fld.flowTimer = none ∧ State.reset.cfg.readEnded = false := by decide

/-- A flow pulse that has qualified at this time. -/
def flowing (at_ : Nat) (s : State) : State :=
  { s with now := at_, fld := { s.fld with flow := .qualifying, flowTimer := some 20002000 } }

/-- The first pulse at 199.999 ms and at 200 ms, one that reaches the cap, one in the drain grace, and those outside. -/
theorem witness_FlowPulsesAreJudged :
    (flowing 20200000 watering).fld.flowTimer = some 20002000 ∧ watering.rnd.record = some openWatering ∧
      watering.wat.plan = [1, 3, 0, 2] ∧
      (run .flowTimerExpiry (flowing 20199999 watering)).rnd.lastWater.map LastRecord.outcome = some .conflict ∧
      ((run .flowTimerExpiry (flowing 20200000 watering)).group 1).dosed = 20 ∧
      (run .flowTimerExpiry (flowing 20200000 { watering with
        wat.groups := watering.wat.groups.set 1 { resetGroup with target := 274000, cap := 411000, dosed := 391 } })
          ).wat.valve = none ∧
      ((run .flowTimerExpiry (flowing 21000000 draining)).group 1).dosed = 20 ∧
      (run .flowTimerExpiry (flowing 21000000 { draining with wat.drainGrace := none })).rnd.round = .inhibited ∧
      (run .flowTimerExpiry (flowing 21000000 node)).wat.unexplained = true ∧
      (run .flowTimerExpiry (flowing 21000000 waterQueued)).wat.unexplained = false := by decide +kernel

/-- The ends of a pulse, and a closed period whose last condition falls. -/
theorem witness_DosePulsesRun :
    watering.wat.openPeriod = some 25000000 ∧ node.wat.openPeriod = none ∧
      EdgeComes (edgeComing (.prb 1) true watering) (.prb 1) 20010000 true ∧ watering.wat.valve = some 1 ∧
      draining.wat.drainGrace = some 23000000 ∧ draining.wat.offTime = some 30000000 ∧
      draining.rnd.record = some openWatering ∧
      (run .offTimeExpiry { draining with wat.drainGrace := none }).wat.valve = some 1 ∧
      (run .offTimeExpiry draining).wat.closedPeriod = true :=
  ⟨rfl, rfl, edge_comes _ _ (by decide) (by decide), rfl, rfl, rfl, rfl, by decide +kernel⟩

theorem witness_DryAndLimitEndRounds :
    watering.wat.flowWindow = some 24000000 ∧ watering.rnd.record = some openWatering ∧
      (run .flowWindowExpiry watering).wat.noFlow = 1 ∧
      (run .flowWindowExpiry { watering with wat.noFlow := 1 }).wat.dry = true ∧
      (run .flowWindowExpiry { watering with wat.closedEarly := true }).wat.noFlow = 0 ∧
      watering.wat.roundLimit = some 7220000000 ∧ (run .roundLimitExpiry watering).rnd.round = .float ∧
      node.wat.flowWindow = none ∧ node.wat.roundLimit = none := by decide +kernel

end Sys2Proof.Machine.Tests
end

section
/-! SUPPORT. ACC at a sample set: what its stages do and leave alone, and what the delivery to RND and CLM leaves of the
account, said once (chapter 2). -/

namespace Sys2Proof.Machine

variable {s t : State} {a b : Acc}

/-! ### The stages of ACC -/

/-- What stage 1 may change (R19, R33). -/
theorem integrate_form (a : Acc) (cfg c) : ∃ q g d u,
    a.integrate cfg c = { a with charge := q, gassing := g, discharged := d, uncertain := u } := by
  unfold Acc.integrate
  split
  · dsimp only
    split
    · exact ⟨_, _, _, _, rfl⟩
    · split
      · exact ⟨_, _, _, _, rfl⟩
      · unfold Acc.bookCharge
        dsimp only
        split
        · split <;> exact ⟨_, _, _, _, rfl⟩
        · exact ⟨_, _, _, _, rfl⟩
  · exact ⟨_, _, _, _, rfl⟩

/-- What stage 2 may change (R26, R27). -/
theorem stepFull_form (a : Acc) (cfg c r) : ∃ q f u,
    a.stepFull cfg c r = { a with charge := q, fullTimer := f, uncertain := u } := by
  unfold Acc.stepFull
  split
  · exact ⟨_, _, _, rfl⟩
  · split <;> exact ⟨_, _, _, rfl⟩

/-- What stage 3 may change (R28, R29). -/
theorem stepDetector_form (a : Acc) (cfg c) : a.stepDetector cfg c =
    { a with discharging := (a.stepDetector cfg c).discharging
             dischargeRun := (a.stepDetector cfg c).dischargeRun
             recoveryRun := (a.stepDetector cfg c).recoveryRun } := by
  unfold Acc.stepDetector
  split
  · split
    · split <;> rfl
    · rfl
  · split
    · split <;> rfl
    · rfl

/-- Stage 3 does not read what the stages before it change. -/
theorem stepDetector_after_stages (a : Acc) (cfg c q g d f u) :
    ({ a with charge := q, gassing := g, discharged := d, fullTimer := f, uncertain := u } : Acc).stepDetector cfg c =
      { a.stepDetector cfg c with charge := q, gassing := g, discharged := d, fullTimer := f, uncertain := u } := by
  unfold Acc.stepDetector
  dsimp only
  split
  · split
    · split <;> rfl
    · rfl
  · split
    · split <;> rfl
    · rfl

theorem integrate_fullTimer (a : Acc) (cfg c) : (a.integrate cfg c).fullTimer = a.fullTimer := by
  obtain ⟨q, g, d, u, h⟩ := integrate_form a cfg c
  rw [h]

theorem integrate_recognises (a : Acc) (cfg c r) : (a.integrate cfg c).recognises cfg c r = a.recognises cfg c r := by
  unfold Acc.recognises
  rw [integrate_fullTimer]

/-- A usable current of −d is booked as a discharge of d (R20). -/
theorem integrate_negative {c : Channel} {d : Nat} (hd : 0 < d) (hu : c.freshness ≠ .stale) (hv : c.value = -(d : Int))
    (a : Acc) (cfg) :
    a.integrate cfg c = { a.bookDischarge d with uncertain := a.uncertain || c.clamped } := by
  have hneg : c.value < 0 := by omega
  have hnat : (-c.value).toNat = d := by omega
  unfold Acc.integrate
  rw [if_pos ((usable_iff c).2 hu)]
  dsimp only
  rw [if_pos hneg, hnat]

/-- A usable current of n above 0 is booked as a charge of n (R21). -/
theorem integrate_positive {c : Channel} {n : Nat} (hn : 0 < n) (hu : c.freshness ≠ .stale) (hv : c.value = n)
    (a : Acc) (cfg) :
    a.integrate cfg c = { a.bookCharge cfg n with uncertain := a.uncertain || c.clamped } := by
  have hneg : ¬ c.value < 0 := by omega
  have hzero : c.value ≠ 0 := by omega
  have hnat : c.value.toNat = n := by omega
  unfold Acc.integrate
  rw [if_pos ((usable_iff c).2 hu)]
  dsimp only
  rw [if_neg hneg, if_neg hzero, hnat]

/-- Below full, with room for the stored part: the split (R21). -/
theorem bookCharge_split {cfg : Configuration} {n : Nat} (hfull : a.charge < qmax cfg)
    (hroom : n * cfg.eta / 100 ≤ qmax cfg - a.charge) :
    a.bookCharge cfg n =
      { a with charge := a.charge + n * cfg.eta / 100, gassing := satAdd a.gassing (n - n * cfg.eta / 100) } := by
  unfold Acc.bookCharge
  dsimp only
  rw [if_pos hfull, if_pos hroom]

/-- The second that fills the string (R22). -/
theorem bookCharge_fill {cfg : Configuration} {n : Nat} (hfull : a.charge < qmax cfg)
    (hroom : qmax cfg - a.charge < n * cfg.eta / 100) :
    a.bookCharge cfg n =
      { a with charge := qmax cfg, gassing := satAdd a.gassing (n - (qmax cfg - a.charge)) } := by
  unfold Acc.bookCharge
  dsimp only
  rw [if_pos hfull, if_neg (Nat.not_le.2 hroom)]

/-- At full (R23). -/
theorem bookCharge_full {cfg : Configuration} (hfull : a.charge = qmax cfg) (n : Nat) :
    a.bookCharge cfg n = { a with gassing := satAdd a.gassing n } := by
  unfold Acc.bookCharge
  dsimp only
  rw [if_neg (by omega)]

theorem bookCharge_discharged (a : Acc) (cfg : Configuration) (n : Nat) :
    (a.bookCharge cfg n).discharged = a.discharged := by
  unfold Acc.bookCharge
  dsimp only
  split
  · split <;> rfl
  · rfl

/-- The part of a charge that is not stored is the loss, rounded up (R21). -/
theorem charge_sub_stored {n eta : Nat} (h : eta ≤ 100) : n - n * eta / 100 = (n * (100 - eta) + 99) / 100 := by
  have hle : n * eta ≤ n * 100 := Nat.mul_le_mul_left n h
  rw [Nat.mul_sub]
  omega

theorem stepFull_charge (a : Acc) (cfg c r) :
    (a.stepFull cfg c r).charge = if a.recognises cfg c r then qmax cfg else a.charge := by
  unfold Acc.stepFull
  split
  · rfl
  · split <;> rfl

/-- Full recognition is the timer's step from 7199 to 7200 (R27). -/
theorem recognises_iff (a : Acc) (cfg c r) :
    a.recognises cfg c r = true ↔ a.fullTimer = 7199 ∧ (a.stepFull cfg c r).fullTimer = 7200 := by
  unfold Acc.stepFull
  by_cases hr : a.recognises cfg c r = true
  · have ht : a.fullTimer = 7199 := by
      unfold Acc.recognises at hr
      simp only [Bool.and_eq_true, beq_iff_eq] at hr
      exact hr.2
    simp [hr, ht]
  · by_cases hb : fullBand cfg c r = true
    · have ht : a.fullTimer ≠ 7199 := fun h => hr (by simp [Acc.recognises, hb, h])
      simp [hr, ht]
    · simp [hr, hb]

/-- A negative current is outside the full band (R26, R27). -/
theorem recognises_of_negative {c : Channel} (h : c.value < 0) (a : Acc) (cfg r) : a.recognises cfg c r = false := by
  have hv : ¬ 0 ≤ c.value := by omega
  simp [Acc.recognises, fullBand, hv]

/-! ### The detector's branches -/

/-- Not DISCHARGING, a sample set above the limit or STALE (R28). -/
theorem stepDetector_notLow {cfg c} (hd : a.discharging = false)
    (h : ¬ (c.freshness ≠ .stale ∧ c.value ≤ dischargeLimit cfg)) :
    a.stepDetector cfg c = { a with dischargeRun := 0 } := by
  simp only [← usable_iff] at h
  simp [Acc.stepDetector, hd, h]

/-- Not DISCHARGING, a sample set at or below the limit (R28). -/
theorem stepDetector_low {cfg c} (hd : a.discharging = false)
    (h : c.freshness ≠ .stale ∧ c.value ≤ dischargeLimit cfg) :
    a.stepDetector cfg c = if a.dischargeRun < 59 then { a with dischargeRun := a.dischargeRun + 1 }
      else { a with dischargeRun := 0, recoveryRun := 0, discharging := true } := by
  simp only [← usable_iff] at h
  simp [Acc.stepDetector, hd, h]

/-- DISCHARGING, a sample set below zero or STALE (R29). -/
theorem stepDetector_notUp {cfg c} (hd : a.discharging = true) (h : ¬ (c.freshness ≠ .stale ∧ 0 ≤ c.value)) :
    a.stepDetector cfg c = { a with recoveryRun := 0 } := by
  simp only [← usable_iff] at h
  simp [Acc.stepDetector, hd, h]

/-- DISCHARGING, a sample set at zero or above (R29). -/
theorem stepDetector_up {cfg c} (hd : a.discharging = true) (h : c.freshness ≠ .stale ∧ 0 ≤ c.value) :
    a.stepDetector cfg c = if a.recoveryRun < 59 then { a with recoveryRun := a.recoveryRun + 1 }
      else { a with recoveryRun := 0, dischargeRun := 0, discharging := false } := by
  simp only [← usable_iff] at h
  simp [Acc.stepDetector, hd, h]

/-! ### The five stages together -/

theorem acc_sampleSet_charge (a : Acc) (cfg c r m) : (a.sampleSet cfg c r m).charge =
    if a.recognises cfg c r then qmax cfg else (a.integrate cfg c).charge := by
  calc (a.sampleSet cfg c r m).charge
      = (((a.integrate cfg c).stepFull cfg c r).stepDetector cfg c).charge := rfl
    _ = ((a.integrate cfg c).stepFull cfg c r).charge := by rw [stepDetector_form]
    _ = _ := by rw [stepFull_charge, integrate_recognises]

theorem acc_sampleSet_gassing (a : Acc) (cfg c r m) :
    (a.sampleSet cfg c r m).gassing = (a.integrate cfg c).gassing := by
  obtain ⟨q, f, u, hf⟩ := stepFull_form (a.integrate cfg c) cfg c r
  calc (a.sampleSet cfg c r m).gassing
      = (((a.integrate cfg c).stepFull cfg c r).stepDetector cfg c).gassing := rfl
    _ = (a.integrate cfg c).gassing := by rw [stepDetector_form, hf]

theorem acc_sampleSet_discharged (a : Acc) (cfg c r m) :
    (a.sampleSet cfg c r m).discharged = (a.integrate cfg c).discharged := by
  obtain ⟨q, f, u, hf⟩ := stepFull_form (a.integrate cfg c) cfg c r
  calc (a.sampleSet cfg c r m).discharged
      = (((a.integrate cfg c).stepFull cfg c r).stepDetector cfg c).discharged := rfl
    _ = (a.integrate cfg c).discharged := by rw [stepDetector_form, hf]

/-- Full recognition, read off the account after all five stages (R27). -/
theorem recognises_iff_sampleSet (a : Acc) (cfg c r m) :
    a.recognises cfg c r = true ↔ a.fullTimer = 7199 ∧ (a.sampleSet cfg c r m).fullTimer = 7200 := by
  have h : (((a.integrate cfg c).stepFull cfg c r).stepDetector cfg c).fullTimer =
      ((a.integrate cfg c).stepFull cfg c r).fullTimer := by rw [stepDetector_form]
  rw [← integrate_recognises, recognises_iff, integrate_fullTimer, ← h]
  rfl

/-- The detector after a sample set is stage 3 alone (R28, R29). -/
theorem acc_sampleSet_detector (a : Acc) (cfg c r m) :
    (a.sampleSet cfg c r m).discharging = (a.stepDetector cfg c).discharging ∧
      (a.sampleSet cfg c r m).dischargeRun = (a.stepDetector cfg c).dischargeRun ∧
      (a.sampleSet cfg c r m).recoveryRun = (a.stepDetector cfg c).recoveryRun := by
  obtain ⟨q, g, d, u, hi⟩ := integrate_form a cfg c
  obtain ⟨q', f, u', hf⟩ := stepFull_form (a.integrate cfg c) cfg c r
  have h : ((a.integrate cfg c).stepFull cfg c r).stepDetector cfg c =
      { a.stepDetector cfg c with charge := q', gassing := g, discharged := d, fullTimer := f, uncertain := u' } := by
    rw [hf, hi]
    exact stepDetector_after_stages a cfg c q' g d f u'
  unfold Acc.sampleSet Acc.stepScore Acc.refreshWater
  rw [h]
  exact ⟨rfl, rfl, rfl⟩

/-! ### The account through the delivery -/

/-- `b` is the account `a` but for its force flags, which a round end out of PREPARE clears (R37, R148). -/
structure AccountKept (a b : Acc) : Prop where
  form : b = { a with forceEq := b.forceEq, forceWater := b.forceWater }

theorem AccountKept.of_eq (h : b = a) : AccountKept a b := by subst h; exact ⟨rfl⟩

theorem AccountKept.charge (h : AccountKept a b) : b.charge = a.charge := by rw [h.form]

theorem AccountKept.gassing (h : AccountKept a b) : b.gassing = a.gassing := by rw [h.form]

theorem AccountKept.discharged (h : AccountKept a b) : b.discharged = a.discharged := by rw [h.form]

theorem AccountKept.fullTimer (h : AccountKept a b) : b.fullTimer = a.fullTimer := by rw [h.form]

theorem AccountKept.discharging (h : AccountKept a b) : b.discharging = a.discharging := by rw [h.form]

theorem AccountKept.dischargeRun (h : AccountKept a b) : b.dischargeRun = a.dischargeRun := by rw [h.form]

theorem AccountKept.recoveryRun (h : AccountKept a b) : b.recoveryRun = a.recoveryRun := by rw [h.form]

@[simp] theorem withdraw_acc (r : Resource) (s : State) : (withdraw r s).acc = s.acc := by
  unfold withdraw
  dsimp only
  split <;> simp

@[simp] theorem goBack_acc (o c) (s : State) : (goBack o c s).acc = s.acc := rfl

@[simp] theorem commandFloatWithWindow_acc (s : State) : (commandFloatWithWindow s).acc = s.acc := by
  have h := commandFloatWithWindow_spec (s := s)
  cases hf : s.fld.fb.active
  · rw [h.already hf]
    rfl
  · rw [h.away hf]

@[simp] theorem regulate_applyPending_acc (s : State) : (regulate (applyPending s)).acc = s.acc := by
  unfold regulate applyPending
  split <;> rfl

@[simp] theorem equaliseSample_acc (s : State) : (equaliseSample s).acc = s.acc := by
  unfold equaliseSample
  split
  · simp
  · split
    · simp
    · dsimp only
      split <;> simp [stepBand]

@[simp] theorem backSample_acc (s : State) : (backSample s).acc = s.acc := by
  unfold backSample
  split
  · simp
  · rfl

@[simp] theorem reduceShare_acc (c : Channel) (s : State) : (reduceShare c s).acc = s.acc := by
  unfold reduceShare
  split
  · dsimp only
    split <;> simp
  · rfl

@[simp] theorem floatSample_acc (s : State) : (floatSample s).acc = s.acc := by
  unfold floatSample
  split
  · rfl
  · split <;> rfl

@[simp] theorem dueSample_acc (s : State) : (dueSample s).acc = s.acc := by
  unfold dueSample
  split
  · split <;> rfl
  · rfl

@[simp] theorem waterDueSample_acc (s : State) : (waterDueSample s).acc = s.acc := by
  unfold waterDueSample
  split
  · split <;> rfl
  · rfl

@[simp] theorem claimingSample_acc (s : State) : (claimingSample s).acc = s.acc := by
  unfold claimingSample
  split <;> simp

@[simp] theorem waterClaimingSample_acc (s : State) : (waterClaimingSample s).acc = s.acc := by
  unfold waterClaimingSample
  split <;> simp

/-- Outside PREPARE the round's step leaves the account alone. -/
theorem roundSample_acc (h : s.rnd.round ≠ .prepare) : (roundSample s).acc = s.acc := by
  unfold roundSample
  cases hr : s.rnd.round with
  | prepare => exact absurd hr h
  | float => exact floatSample_acc s
  | due => exact dueSample_acc s
  | waterDue => exact waterDueSample_acc s
  | claiming => exact claimingSample_acc s
  | waterClaiming => exact waterClaimingSample_acc s
  | equalising | soak => exact equaliseSample_acc s
  | transferBack => exact backSample_acc s
  | transferOut | rest | watering | inhibited | stuck => rfl

/-- A round that ends ABORTED out of PREPARE changes the force flags alone (R35, R37, R148). -/
theorem prepareEnds_accountKept {r : OpenRecord} (hr : s.rnd.record = some r) (ho : r.outcome = none) (c) :
    AccountKept s.acc (prepareEnds .aborted c s).acc := by
  have e := prepareEnds_spec hr ho .aborted c
  obtain ⟨hh, hd, hs⟩ := e.notEqualised (by decide) (by decide)
  have hf := congrArg State.acc e.form
  dsimp only at hh hd hs hf
  rw [hh, hd, hs] at hf
  rw [hf]
  exact ⟨rfl⟩

theorem prepareSample_accountKept {r : OpenRecord} (hr : s.rnd.record = some r) (ho : r.outcome = none) :
    AccountKept s.acc (prepareSample s).acc := by
  unfold prepareSample
  split
  · exact prepareEnds_accountKept hr ho _
  · split
    · exact prepareEnds_accountKept hr ho _
    · exact .of_eq rfl

/-- PREPARE has an open record without an outcome (R141, R147). -/
theorem Coherent.prepareRecord (h : Coherent s) (hp : s.rnd.round = .prepare) :
    ∃ r, s.rnd.record = some r ∧ r.outcome = none := by
  have hkind := h.equaliseRecord (by rw [hp]; rfl)
  have hout := h.outcomeOpen (.inl (by rw [hp]; rfl))
  cases hr : s.rnd.record with
  | none => rw [hr] at hkind; cases hkind
  | some r => rw [hr] at hout; exact ⟨r, rfl, hout⟩

theorem conditioned_record (w) : (conditioned w s).rnd.record = s.rnd.record := by
  obtain ⟨q, h⟩ := conditioned_form (s := s) w
  rw [h]

theorem conditioned_round (w) : (conditioned w s).rnd.round = s.rnd.round := by
  obtain ⟨q, h⟩ := conditioned_form (s := s) w
  rw [h]

/-- After its measurements, the delivery of a sample set keeps the account. -/
theorem deliverSampleSet_accountKept (hp : s.rnd.round = .prepare → ∃ r, s.rnd.record = some r ∧ r.outcome = none) (w) :
    AccountKept (conditioned w s).acc (deliverSampleSet w s).acc := by
  rw [deliverSampleSet_eq, reduceShare_acc]
  by_cases hround : s.rnd.round = .prepare
  · obtain ⟨r, hr, ho⟩ := hp hround
    have hsample : roundSample (conditioned w s) = prepareSample (conditioned w s) := by
      unfold roundSample
      rw [conditioned_round, hround]
    rw [hsample]
    exact prepareSample_accountKept ((conditioned_record w).trans hr) ho
  · exact .of_eq (roundSample_acc (by rwa [conditioned_round]))

/-- SAMPLE_SET in a coherent state: the account is the five stages of ACC with the current and MON's results of the same
sample set, but for the force flags (R14, R18, R43). -/
theorem exec_sampleSet_account {words : List ScanWord} {ends : Nat} (he : s.scn.scanEnds = some ends)
    (hc : Coherent s) :
    ∃ t, exec (.sampleSet words) s = .next t ∧
      AccountKept (s.acc.sampleSet s.cfg.config t.scn.current s.rnd.round t.mon) t.acc := by
  refine ⟨_, exec_sampleSet_eq he, ?_⟩
  have hk := deliverSampleSet_accountKept (s := s.reach ends) hc.prepareRecord words
  rw [conditioned_acc, ← deliverSampleSet_mon, ← deliverSampleSet_scn] at hk
  exact hk

/-- `Recognised` names the full recognition of ACC's stage 2 (R27). -/
theorem recognised_iff {c : Channel} {m : Mon}
    (hk : AccountKept (s.acc.sampleSet s.cfg.config c s.rnd.round m) t.acc) :
    Recognised s t ↔ s.acc.recognises s.cfg.config c s.rnd.round = true := by
  rw [recognises_iff_sampleSet _ _ _ _ m, ← hk.fullTimer]
  rfl

/-- At full recognition the charge becomes full, whatever was booked (R27). -/
theorem charge_of_recognised {c : Channel} {m : Mon}
    (hk : AccountKept (s.acc.sampleSet s.cfg.config c s.rnd.round m) t.acc) (hr : Recognised s t) :
    t.acc.charge = qmax s.cfg.config := by
  rw [hk.charge, acc_sampleSet_charge, if_pos ((recognised_iff hk).1 hr)]

/-- Without full recognition the charge is the one booked (R18). -/
theorem charge_of_not_recognised {c : Channel} {m : Mon}
    (hk : AccountKept (s.acc.sampleSet s.cfg.config c s.rnd.round m) t.acc) (hr : ¬ Recognised s t) :
    t.acc.charge = (s.acc.integrate s.cfg.config c).charge := by
  rw [hk.charge, acc_sampleSet_charge, if_neg (mt (recognised_iff hk).2 hr)]

/-- A booking that fills the string, or leaves it full, gives a full charge with full recognition or without. -/
theorem charge_of_booked_full {c : Channel} {m : Mon}
    (hk : AccountKept (s.acc.sampleSet s.cfg.config c s.rnd.round m) t.acc)
    (h : (s.acc.integrate s.cfg.config c).charge = qmax s.cfg.config) : t.acc.charge = qmax s.cfg.config := by
  by_cases hr : Recognised s t
  · exact charge_of_recognised hk hr
  · exact (charge_of_not_recognised hk hr).trans h

/-! ### The obligations on the account -/

/-- Settles O21, by stage 1 on a negative current, which is outside the full band. -/
theorem dischargeIsBooked : Obligations.DischargeIsBooked := by
  intro words s ends he hc
  obtain ⟨t, ht, hk⟩ := exec_sampleSet_account (words := words) he hc
  refine ⟨t, ht, fun d hd hu hv => ?_⟩
  have hnot := recognises_of_negative (c := t.scn.current) (by omega) s.acc s.cfg.config s.rnd.round
  rw [hk.charge, hk.discharged, hk.gassing, acc_sampleSet_charge, acc_sampleSet_discharged, acc_sampleSet_gassing,
    hnot, integrate_negative hd hu hv]
  refine ⟨?_, rfl, rfl⟩
  show s.acc.charge - d = _
  split <;> omega

/-- Settles O22: stage 1 books by the room left, and full recognition sets the charge to full whatever was booked. -/
theorem chargeIsBooked : Obligations.ChargeIsBooked := by
  intro words s ends he hc
  obtain ⟨t, ht, hk⟩ := exec_sampleSet_account (words := words) he hc
  refine ⟨t, ht, ?_⟩
  rintro n _ _ hn hu hv rfl rfl
  have hbooked := integrate_positive hn hu hv s.acc s.cfg.config
  have hgassing := hk.gassing.trans (acc_sampleSet_gassing ..)
  have hdischarged := hk.discharged.trans (acc_sampleSet_discharged ..)
  rw [hbooked] at hgassing hdischarged
  refine ⟨hdischarged.trans (bookCharge_discharged ..), charge_of_recognised hk, fun hbelow hroom => ?_,
    fun hbelow hroom => ?_, fun hfull => ?_⟩
  · rw [bookCharge_split hbelow hroom] at hbooked hgassing
    exact ⟨fun hr => by rw [charge_of_not_recognised hk hr, hbooked], hgassing, charge_sub_stored⟩
  · rw [bookCharge_fill hbelow hroom] at hbooked hgassing
    exact ⟨charge_of_booked_full hk (by rw [hbooked]), hgassing⟩
  · rw [bookCharge_full hfull] at hbooked hgassing
    exact ⟨charge_of_booked_full hk (by rw [hbooked]; exact hfull), hgassing⟩

/-- Settles O24, by the branches of stage 3. -/
theorem dischargeDetector : Obligations.DischargeDetector := by
  intro words s ends he hc _ _
  obtain ⟨t, ht, hk⟩ := exec_sampleSet_account (words := words) he hc
  refine ⟨t, ht, fun low up hlow hup => ?_⟩
  obtain ⟨hd, hdr, hrr⟩ := acc_sampleSet_detector s.acc s.cfg.config t.scn.current s.rnd.round t.mon
  rw [hk.discharging, hk.dischargeRun, hk.recoveryRun, hd, hdr, hrr]
  refine ⟨fun hoff => ⟨fun h => ?_, fun h hrun => ?_, fun h hrun => ?_⟩,
    fun hon => ⟨fun h => ?_, fun h hrun => ?_, fun h hrun => ?_⟩⟩
  · rw [stepDetector_notLow hoff (mt hlow.2 h)]
    exact ⟨hoff, rfl⟩
  · rw [stepDetector_low hoff (hlow.1 h), if_pos (by omega)]
    exact ⟨hoff, rfl⟩
  · rw [stepDetector_low hoff (hlow.1 h), if_neg (by omega)]
    exact ⟨rfl, rfl, rfl⟩
  · rw [stepDetector_notUp hon (mt hup.2 h)]
    exact ⟨hon, rfl⟩
  · rw [stepDetector_up hon (hup.1 h), if_pos (by omega)]
    exact ⟨hon, rfl⟩
  · rw [stepDetector_up hon (hup.1 h), if_neg (by omega)]
    exact ⟨rfl, rfl, rfl⟩

end Sys2Proof.Machine
end

section
/-! SUPPORT. MON at a sample set: what its stages do, and what the delivery to RND and CLM leaves of its results and of
its Status request, said once (chapter 3). -/

namespace Sys2Proof.Machine

variable {s t : State}

/-! ### Mean, spread and band condition -/

/-- Below two participating blocs mean and spread are invalid (R42). -/
theorem meanOf_few {l : List Nat} (h : l.length < 2) : meanOf l = none := if_neg (by omega)

theorem spreadOf_few {l : List Nat} (h : l.length < 2) : spreadOf l = none := if_neg (by omega)

theorem meanOf_many {l : List Nat} (h : 2 ≤ l.length) : meanOf l = some (l.sum / l.length) := if_pos h

/-- Without a valid spread there is no band condition (R54). -/
theorem bandCondition_none (cfg : Configuration) (c : Channel) : bandCondition cfg c none = false := rfl

/-- The band condition at a valid spread (R54). -/
theorem bandCondition_some_iff (cfg : Configuration) (c : Channel) (d : Nat) : bandCondition cfg c (some d) = true ↔
    d ≤ cfg.sOk ∧ c.freshness ≠ .stale ∧ c.value ≤ (cfg.capacity * 10 / 100 : Nat) := by
  unfold bandCondition
  simp only [Bool.and_eq_true, decide_eq_true_eq, usable_iff, and_assoc]

/-! ### The monitors of one bloc -/

/-- The monitors of a STALE bloc are kept (R44). -/
theorem stepMonitors_of_stale {c : Channel} (h : c.freshness = .stale) (cfg mean) (m : BlocMonitor) :
    stepMonitors cfg mean c m = m := by
  unfold stepMonitors
  rw [if_neg (by simp [(not_usable c).2 h])]

/-- The monitors of a participating bloc step each by its own test (R44). -/
theorem stepMonitors_of_usable {c : Channel} {v : Nat} (h : c.freshness ≠ .stale) (hv : c.value = v) (cfg mean)
    (m : BlocMonitor) : stepMonitors cfg mean c m =
      { devOutside := stepDeviation cfg mean v m.devOutside
        highOutside := stepHigh cfg v m.highOutside
        lowOutside := stepLow cfg v m.lowOutside } := by
  unfold stepMonitors
  rw [if_pos ((usable_iff c).2 h), hv, Int.toNat_natCast]

/-- The deviation monitor goes OUTSIDE above Dv and comes back at Dv − 5 (R45). -/
theorem stepDeviation_some_iff (cfg : Configuration) (mean v : Nat) (outside : Bool) :
    stepDeviation cfg (some mean) v outside = true ↔
      if outside then (cfg.dv : Int) - 5 < |(v : Int) - mean| else (cfg.dv : Int) < |(v : Int) - mean| := by
  rw [← distance_eq_abs]
  cases outside
  · simp [stepDeviation, monitorStatus]
  · simp [stepDeviation, monitorStatus]
    omega

/-- The high monitor goes OUTSIDE above Vhi and comes back at Vhi − 20 (R46). -/
theorem stepHigh_iff (cfg : Configuration) (v : Nat) (outside : Bool) :
    stepHigh cfg v outside = true ↔ if outside then (cfg.vhi : Int) - 20 < v else cfg.vhi < v := by
  cases outside
  · simp [stepHigh, monitorStatus]
  · simp [stepHigh, monitorStatus]
    omega

/-- The low monitor goes OUTSIDE below Vlo and comes back at Vlo + 20 (R47). -/
theorem stepLow_iff (cfg : Configuration) (v : Nat) (outside : Bool) :
    stepLow cfg v outside = true ↔ if outside then v < cfg.vlo + 20 else v < cfg.vlo := by
  cases outside <;> simp [stepLow, monitorStatus]

theorem stepAllMonitors_get {blocs : List Channel} {ms : List BlocMonitor} {i : Nat} {c : Channel} {m : BlocMonitor}
    (hc : blocs[i]? = some c) (hm : ms[i]? = some m) (cfg : Configuration) : (stepAllMonitors cfg blocs ms)[i]? =
      some (stepMonitors cfg (meanOf (participatingValues blocs)) c m) :=
  List.getElem?_zipWith_eq_some.2 ⟨c, m, hc, hm, rfl⟩

/-! ### The spread block -/

/-- The float-settled sample set of R51. -/
theorem floatSettled_iff (cfg : Configuration) (c : Channel) (r : RoundState) (spread : Option Nat) :
    floatSettled cfg c r spread = true ↔
      (r = .float ∨ r = .due ∨ r = .waterDue) ∧ c.freshness ≠ .stale ∧
        -((cfg.capacity * 10 / 50 : Nat) : Int) ≤ c.value ∧ c.value ≤ (cfg.capacity * 10 / 50 : Nat) ∧
        spread ≠ none := by
  unfold floatSettled
  simp only [Bool.and_eq_true, Bool.or_eq_true, beq_iff_eq, decide_eq_true_eq, usable_iff, Option.isSome_iff_ne_none,
    and_assoc, or_assoc]

/-- A float-settled sample set below the 3600th (R52). -/
theorem stepSpreadBlock_counts {cfg c r} {m : Mon} {d : Nat} (h : floatSettled cfg c r m.spread = true)
    (hd : m.spread = some d) (hn : m.spreadCount + 1 ≠ 3600) : m.stepSpreadBlock cfg c r =
      { m with spreadSum := m.spreadSum + d, spreadCount := m.spreadCount + 1 } := by
  unfold Mon.stepSpreadBlock
  rw [if_pos h]
  dsimp only
  rw [if_neg hn, hd, Option.getD_some]

/-- The 3600th float-settled sample set completes the block (R52). -/
theorem stepSpreadBlock_completes {cfg c r} {m : Mon} {d : Nat} (h : floatSettled cfg c r m.spread = true)
    (hd : m.spread = some d) (hn : m.spreadCount + 1 = 3600) : m.stepSpreadBlock cfg c r =
      { m with sFloat := (m.spreadSum + d) / 3600, sFloatValid := true, spreadSum := 0, spreadCount := 0 } := by
  unfold Mon.stepSpreadBlock
  rw [if_pos h]
  dsimp only
  rw [if_pos hn, hd, Option.getD_some]

/-- Any other sample set discards the partial block (R53). -/
theorem stepSpreadBlock_discards {cfg c r} {m : Mon} (h : floatSettled cfg c r m.spread ≠ true) :
    m.stepSpreadBlock cfg c r = { m with spreadSum := 0, spreadCount := 0 } := if_neg h

/-- What stage 5 may change (R51 to R53). -/
theorem stepSpreadBlock_form (m : Mon) (cfg c r) : m.stepSpreadBlock cfg c r =
    { m with sFloat := (m.stepSpreadBlock cfg c r).sFloat
             sFloatValid := (m.stepSpreadBlock cfg c r).sFloatValid
             spreadSum := (m.stepSpreadBlock cfg c r).spreadSum
             spreadCount := (m.stepSpreadBlock cfg c r).spreadCount } := by
  unfold Mon.stepSpreadBlock
  dsimp only
  split
  · split <;> rfl
  · rfl

/-! ### The six stages together -/

/-- MON after its stages 1 to 4 (R41 to R50). -/
def Mon.summarised (cfg : Configuration) (blocs : List Channel) (m : Mon) : Mon :=
  { m with
    monitors := stepAllMonitors cfg blocs m.monitors
    mean := meanOf (participatingValues blocs)
    spread := spreadOf (participatingValues blocs)
    devAlert := (meanOf (participatingValues blocs)).isSome &&
      someOutside Channel.usable BlocMonitor.devOutside blocs (stepAllMonitors cfg blocs m.monitors)
    lowAlert := someOutside Channel.usable BlocMonitor.lowOutside blocs (stepAllMonitors cfg blocs m.monitors)
    foldBack := someOutside (fun c => c.freshness == .fresh) BlocMonitor.highOutside blocs
      (stepAllMonitors cfg blocs m.monitors) }

/-- MON's six stages: the first four, the spread block and the band condition (R40). -/
theorem monSampleSet_eq (m : Mon) (cfg scn r) : m.sampleSet cfg scn r =
    { (m.summarised cfg scn.blocs).stepSpreadBlock cfg scn.current r with
      band := bandCondition cfg scn.current (spreadOf (participatingValues scn.blocs)) } := rfl

/-- MON's six stages with the spread block's own figures left as they come (R40). -/
theorem monSampleSet_form (m : Mon) (cfg scn r) : ∃ f v a n, m.sampleSet cfg scn r =
    { m.summarised cfg scn.blocs with
      sFloat := f, sFloatValid := v, spreadSum := a, spreadCount := n
      band := bandCondition cfg scn.current (spreadOf (participatingValues scn.blocs)) } := by
  rw [monSampleSet_eq, stepSpreadBlock_form]
  exact ⟨_, _, _, _, rfl⟩

theorem monSampleSet_mean (m : Mon) (cfg scn r) :
    (m.sampleSet cfg scn r).mean = meanOf (participatingValues scn.blocs) := by
  obtain ⟨f, v, a, n, h⟩ := monSampleSet_form m cfg scn r
  rw [h]
  rfl

theorem monSampleSet_spread (m : Mon) (cfg scn r) :
    (m.sampleSet cfg scn r).spread = spreadOf (participatingValues scn.blocs) := by
  obtain ⟨f, v, a, n, h⟩ := monSampleSet_form m cfg scn r
  rw [h]
  rfl

theorem monSampleSet_band (m : Mon) (cfg scn r) :
    (m.sampleSet cfg scn r).band = bandCondition cfg scn.current (m.sampleSet cfg scn r).spread := by
  rw [monSampleSet_spread, monSampleSet_eq]

/-- The deviation alert, from the monitors as they stand after stage 3 (R49). -/
theorem monSampleSet_devAlert (m : Mon) (cfg scn r) : (m.sampleSet cfg scn r).devAlert =
    ((m.sampleSet cfg scn r).mean.isSome &&
      someOutside Channel.usable BlocMonitor.devOutside scn.blocs (m.sampleSet cfg scn r).monitors) := by
  obtain ⟨f, v, a, n, h⟩ := monSampleSet_form m cfg scn r
  rw [h]
  rfl

/-- The low alert, from the monitors as they stand after stage 3 (R49). -/
theorem monSampleSet_lowAlert (m : Mon) (cfg scn r) : (m.sampleSet cfg scn r).lowAlert =
    someOutside Channel.usable BlocMonitor.lowOutside scn.blocs (m.sampleSet cfg scn r).monitors := by
  obtain ⟨f, v, a, n, h⟩ := monSampleSet_form m cfg scn r
  rw [h]
  rfl

/-- The fold-back trigger, from the monitors of the FRESH blocs as they stand after stage 3 (R50). -/
theorem monSampleSet_foldBack (m : Mon) (cfg scn r) : (m.sampleSet cfg scn r).foldBack =
    someOutside (fun c => c.freshness == .fresh) BlocMonitor.highOutside scn.blocs
      (m.sampleSet cfg scn r).monitors := by
  obtain ⟨f, v, a, n, h⟩ := monSampleSet_form m cfg scn r
  rw [h]
  rfl

/-! ### A Status request through the round's step -/

@[simp] theorem withdraw_statusQueued (r : Resource) (s : State) :
    (withdraw r s).clm.statusQueued = s.clm.statusQueued := by
  unfold withdraw
  dsimp only
  split <;> simp

@[simp] theorem releaseClaim_statusQueued (r : Resource) (o) (s : State) :
    (releaseClaim r o s).clm.statusQueued = s.clm.statusQueued := by
  unfold releaseClaim
  dsimp only
  split <;> simp

/-- A Status that is queued in `s` is still queued in `t`. -/
def StatusStays (s t : State) : Prop := s.clm.statusQueued = true → t.clm.statusQueued = true

theorem StatusStays.of_eq (h : t.clm.statusQueued = s.clm.statusQueued) : StatusStays s t := fun q => h.trans q

theorem StatusStays.trans {u : State} (h : StatusStays s t) (k : StatusStays t u) : StatusStays s u := k ∘ h

theorem StatusStays.ite {u : State} {p : Prop} [Decidable p] (h : StatusStays s t) (k : StatusStays s u) :
    StatusStays s (if p then t else u) := by
  split
  · exact h
  · exact k

theorem StatusStays.requestStatus (h : StatusStays s t) : StatusStays s (requestStatus t) := fun hs => by
  rw [requestStatus_clm, h hs, Bool.true_or]

theorem equaliseEnd_statusStays (s : State) : StatusStays s (equaliseEnd s) := by
  unfold equaliseEnd enterInhibited enterRest
  refine .ite (.requestStatus ?_) (.ite ?_ ?_)
  · exact .of_eq (releaseClaim_statusQueued ..)
  · exact .of_eq (releaseClaim_statusQueued ..)
  · exact .of_eq (releaseClaim_statusQueued ..)

theorem prepareEnds_statusStays (o c) (s : State) : StatusStays s (prepareEnds o c s) :=
  equaliseEnd_statusStays (fixOutcome o c { s with rnd.chargerWait := none })

theorem commandFloatWithWindow_statusStays (s : State) : StatusStays s (commandFloatWithWindow s) := fun h => by
  have hw := commandFloatWithWindow_spec (s := s)
  cases hf : s.fld.fb.active
  · rw [hw.already hf, State.stuckEntered]
    simp [h]
  · rw [hw.away hf]
    exact h

theorem prepareSample_statusStays (s : State) : StatusStays s (prepareSample s) :=
  .ite (prepareEnds_statusStays _ _ _) (.ite (prepareEnds_statusStays _ _ _) (.of_eq rfl))

theorem equaliseSample_statusStays (s : State) : StatusStays s (equaliseSample s) := by
  unfold equaliseSample
  refine .ite (.of_eq rfl) (.ite (.of_eq rfl) ?_)
  dsimp only
  split
  · exact .of_eq rfl
  · unfold applyPending
    exact .of_eq (by split <;> rfl)

theorem backSample_statusStays (s : State) : StatusStays s (backSample s) :=
  .ite (commandFloatWithWindow_statusStays s) (.of_eq rfl)

theorem reduceShare_statusStays (c : Channel) (s : State) : StatusStays s (reduceShare c s) := by
  unfold reduceShare
  exact .ite (.ite (.requestStatus (.of_eq rfl)) (.of_eq rfl)) (.of_eq rfl)

/-- A step of RND that asks for no Status and after which CLM reduces no share: the round is not charging (R136). -/
structure QuietStep (s t : State) : Prop where
  status : t.clm.statusQueued = s.clm.statusQueued
  notEqualising : t.rnd.round ≠ .equalising
  notSoak : t.rnd.round ≠ .soak

theorem QuietStep.ite {u : State} {p : Prop} [Decidable p] (h : QuietStep s t) (k : QuietStep s u) :
    QuietStep s (if p then t else u) := by
  split
  · exact h
  · exact k

/-- RND's step in the ten round states in which it asks for no Status of its own. -/
theorem roundSample_quiet (hp : s.rnd.round ≠ .prepare) (he : s.rnd.round ≠ .equalising) (hs : s.rnd.round ≠ .soak)
    (hb : s.rnd.round ≠ .transferBack) : QuietStep s (roundSample s) := by
  have hstill : QuietStep s s := ⟨rfl, he, hs⟩
  unfold roundSample
  cases hr : s.rnd.round with
  | prepare => exact absurd hr hp
  | equalising => exact absurd hr he
  | soak => exact absurd hr hs
  | transferBack => exact absurd hr hb
  | float => exact .ite ⟨rfl, nofun, nofun⟩ (.ite ⟨rfl, nofun, nofun⟩ hstill)
  | due =>
    exact .ite (.ite ⟨Clm.withMachine_statusQueued .., nofun, nofun⟩ hstill) ⟨rfl, nofun, nofun⟩
  | waterDue =>
    exact .ite (.ite ⟨Clm.withMachine_statusQueued .., nofun, nofun⟩ hstill) ⟨rfl, nofun, nofun⟩
  | claiming => exact .ite hstill ⟨withdraw_statusQueued .., nofun, nofun⟩
  | waterClaiming => exact .ite hstill ⟨withdraw_statusQueued .., nofun, nofun⟩
  | transferOut | rest | watering | inhibited | stuck => exact hstill

theorem roundSample_statusStays (s : State) : StatusStays s (roundSample s) := by
  by_cases hquiet : s.rnd.round ≠ .prepare ∧ s.rnd.round ≠ .equalising ∧ s.rnd.round ≠ .soak ∧
      s.rnd.round ≠ .transferBack
  · obtain ⟨hp, he, hs, hb⟩ := hquiet
    exact .of_eq (roundSample_quiet hp he hs hb).status
  · unfold roundSample
    cases hr : s.rnd.round with
    | prepare => exact prepareSample_statusStays s
    | equalising | soak => exact equaliseSample_statusStays s
    | transferBack => exact backSample_statusStays s
    | _ => simp [hr] at hquiet

theorem deliverSampleSet_statusStays (w) : StatusStays (conditioned w s) (deliverSampleSet w s) :=
  (roundSample_statusStays _).trans (reduceShare_statusStays _ _)

theorem deliverSampleSet_statusQueued_of_quiet (w) (hp : s.rnd.round ≠ .prepare) (he : s.rnd.round ≠ .equalising)
    (hs : s.rnd.round ≠ .soak) (hb : s.rnd.round ≠ .transferBack) :
    (deliverSampleSet w s).clm.statusQueued = (conditioned w s).clm.statusQueued := by
  rw [← conditioned_round w] at hp he hs hb
  have hquiet := roundSample_quiet hp he hs hb
  rw [deliverSampleSet_eq, reduceShare_of_not_working _ hquiet.notEqualising hquiet.notSoak]
  exact hquiet.status

/-! ### MON through the delivery -/

/-- The monitors' Status request at a sample set that takes `s` to `t` (R48, R116). -/
structure MonitorsAsk (s t : State) : Prop where
  asks : queueOpen s.cfg.mode = true → MonitorEvents s t → t.clm.statusQueued = true
  silent : ¬ MonitorEvents s t → s.rnd.round ≠ .prepare → s.rnd.round ≠ .equalising → s.rnd.round ≠ .soak →
    s.rnd.round ≠ .transferBack → t.clm.statusQueued = s.clm.statusQueued

theorem deliverSampleSet_monitorsAsk (w) : MonitorsAsk s (deliverSampleSet w s) := by
  have hev : MonitorEvents s (deliverSampleSet w s) ↔ MonitorEvents s (conditioned w s) := by
    unfold MonitorEvents
    rw [(deliverSampleSet_measurementsKept w).mon]
  have hasked := conditioned_statusQueued (s := s) w
  refine ⟨fun hq h => deliverSampleSet_statusStays w (hasked.2 (.inr ⟨hq, hev.1 h⟩)), fun h hp he hs hb => ?_⟩
  rw [deliverSampleSet_statusQueued_of_quiet w hp he hs hb, Bool.eq_iff_iff, hasked]
  exact or_iff_left fun k => h (hev.2 k.2)

/-- SAMPLE_SET: the results of MON are its six stages on the channels of the same sample set, with the round state at
delivery, and its crossings ask for a Status (R14, R40, R43, R48). -/
theorem exec_sampleSet_monitor {words : List ScanWord} {ends : Nat} (he : s.scn.scanEnds = some ends) :
    ∃ t, exec (.sampleSet words) s = .next t ∧ t.mon = s.mon.sampleSet s.cfg.config t.scn s.rnd.round ∧
      MonitorsAsk s t := by
  refine ⟨_, exec_sampleSet_eq he, ?_, ?_⟩
  · rw [deliverSampleSet_mon, deliverSampleSet_scn]
    rfl
  · obtain ⟨hasks, hsilent⟩ := deliverSampleSet_monitorsAsk (s := s.reach ends) words
    exact ⟨hasks, hsilent⟩

/-! ### The obligations on the Bloc Monitor -/

/-- Settles O18, by the stages of MON on the channels of the sample set. -/
theorem meanSpreadAndSummaries : Obligations.MeanSpreadAndSummaries := by
  intro words s ends he
  obtain ⟨t, ht, hmon, -⟩ := exec_sampleSet_monitor (words := words) he
  refine ⟨t, ht, ?_⟩
  rw [hmon]
  refine ⟨?_, ?_, ?_, ?_⟩
  · rintro values rfl
    rw [participatingValues_eq, monSampleSet_band, monSampleSet_mean, monSampleSet_spread]
    refine ⟨fun hfew => ?_, fun hmany => ⟨meanOf_many hmany, ?_⟩⟩
    · rw [meanOf_few hfew, spreadOf_few hfew]
      exact ⟨rfl, rfl, bandCondition_none _ _⟩
    · obtain ⟨lo, hi, hlo, hhi, hbetween, hspread⟩ := spreadOf_spec hmany
      refine ⟨lo, hi, hlo, hhi, hbetween, hspread, ?_⟩
      rw [hspread]
      exact bandCondition_some_iff _ _ _
  · rw [monSampleSet_devAlert]
    simp only [Bool.and_eq_true, Option.isSome_iff_ne_none, someOutside_iff, usable_iff]
  · rw [monSampleSet_lowAlert]
    simp only [someOutside_iff, usable_iff]
  · rw [monSampleSet_foldBack]
    simp only [someOutside_iff, beq_iff_eq]

/-- Settles O19: each monitor's own test, and the Status request of the crossings through RND's and CLM's steps. -/
theorem monitorsHaveHysteresis : Obligations.MonitorsHaveHysteresis := by
  intro words s ends he
  obtain ⟨t, ht, hmon, hask⟩ := exec_sampleSet_monitor (words := words) he
  refine ⟨t, ht, hask.silent, fun i c m hc hm => ?_⟩
  have hstep : t.mon.monitors[i]? = some (stepMonitors s.cfg.config t.mon.mean c m) := by
    rw [hmon, monSampleSet_monitors, monSampleSet_mean]
    exact stepAllMonitors_get hc hm _
  refine ⟨_, hstep, fun hstale => stepMonitors_of_stale hstale _ _ _, fun hfresh v hv => ?_,
    fun hq hcross => hask.asks hq ⟨i, m, _, hm, hstep, hcross⟩⟩
  rw [stepMonitors_of_usable hfresh hv]
  refine ⟨fun hnone => ?_, fun mean hmean => ?_, stepHigh_iff _ _ _, stepLow_iff _ _ _⟩
  · rw [hnone]
    rfl
  · rw [hmean]
    exact stepDeviation_some_iff _ _ _ _

/-- Settles O20, by the three outcomes of MON's stage 5. -/
theorem spreadBlockAverages : Obligations.SpreadBlockAverages := by
  intro words s ends he
  obtain ⟨t, ht, hmon, -⟩ := exec_sampleSet_monitor (words := words) he
  refine ⟨t, ht, fun settled hsettled => ?_⟩
  have hiff := hsettled.trans (floatSettled_iff _ _ _ _).symm
  rw [hmon, monSampleSet_spread] at hiff
  rw [hmon, monSampleSet_spread, monSampleSet_eq]
  refine ⟨fun hset hn d hd => ?_, fun hset hn d hd => ?_, fun hset => ?_⟩
  · rw [stepSpreadBlock_counts (m := s.mon.summarised _ _) (hiff.1 hset) hd hn]
    exact ⟨rfl, rfl, rfl, rfl⟩
  · rw [stepSpreadBlock_completes (m := s.mon.summarised _ _) (hiff.1 hset) hd hn]
    exact ⟨rfl, rfl, rfl, rfl⟩
  · rw [stepSpreadBlock_discards (m := s.mon.summarised _ _) (mt hiff.2 hset)]
    exact ⟨rfl, rfl, rfl, rfl⟩

end Sys2Proof.Machine
end

section
/-! SUPPORT. The score of a sample set: what ACC's stages 4 and 5 make of the account, and the three score terms said
once (sections 2.6, 4.1 and 4.2). -/

namespace Sys2Proof.Machine

variable {s : State} {a b : Acc}

/-! ### The figures of the score through the stages of ACC -/

/-- Stages 1 to 3 change nothing that stages 4 and 5 write, nor the hours since equalise and the restart flag (R18). -/
theorem acc_sampleSet_form (a : Acc) (cfg c r m) : ∃ q g d f u e n n',
    a.sampleSet cfg c r m =
      (Acc.refreshWater { a with charge := q, gassing := g, discharged := d, fullTimer := f, uncertain := u
                                 discharging := e, dischargeRun := n, recoveryRun := n' }).stepScore cfg m := by
  obtain ⟨q, g, d, u, hi⟩ := integrate_form a cfg c
  obtain ⟨q', f, u', hf⟩ := stepFull_form (a.integrate cfg c) cfg c r
  unfold Acc.sampleSet
  rw [stepDetector_form, hf, hi]
  exact ⟨_, _, _, _, _, _, _, _, rfl⟩

@[simp] theorem acc_sampleSet_hours (a : Acc) (cfg c r m) : (a.sampleSet cfg c r m).hours = a.hours := by
  obtain ⟨_, _, _, _, _, _, _, _, h⟩ := acc_sampleSet_form a cfg c r m
  rw [h]
  rfl

@[simp] theorem acc_sampleSet_restarted (a : Acc) (cfg c r m) : (a.sampleSet cfg c r m).restarted = a.restarted := by
  obtain ⟨_, _, _, _, _, _, _, _, h⟩ := acc_sampleSet_form a cfg c r m
  rw [h]
  rfl

/-- Stage 4 reads the gassing of the same sample set (R31). -/
theorem acc_sampleSet_deficit (a : Acc) (cfg c r m) :
    (a.sampleSet cfg c r m).deficit = deficitOf (a.sampleSet cfg c r m).gassing := rfl

/-- Stage 4 reads the deficit it has just written (R32). -/
theorem acc_sampleSet_urgency (a : Acc) (cfg c r m) :
    (a.sampleSet cfg c r m).urgency = urgencyOf (a.sampleSet cfg c r m).deficit := rfl

/-- Stage 5's time term reads the hours, which no stage changes (R57). -/
theorem acc_sampleSet_tt (a : Acc) (cfg c r m) : (a.sampleSet cfg c r m).tt = timeTerm cfg a.hours :=
  congrArg (timeTerm cfg) (acc_sampleSet_hours a cfg c r m)

/-- Stage 5's turnover term reads the discharge booked in the same sample set (R58). -/
theorem acc_sampleSet_tq (a : Acc) (cfg c r m) :
    (a.sampleSet cfg c r m).tq = turnoverTerm cfg (a.sampleSet cfg c r m).discharged := rfl

/-- Stage 5's spread term stands until S_float is valid (R59). -/
theorem acc_sampleSet_ts (a : Acc) (cfg c r) (m : Mon) :
    (a.sampleSet cfg c r m).ts = if m.sFloatValid then spreadTerm cfg m.sFloat else a.ts := by
  obtain ⟨_, _, _, _, _, _, _, _, h⟩ := acc_sampleSet_form a cfg c r m
  rw [h]
  rfl

/-! ### The three ranges of the spread term -/

theorem spreadTerm_of_le_sOk {cfg : Configuration} {n : Nat} (h : n ≤ cfg.sOk) : spreadTerm cfg n = 0 := if_pos h

theorem spreadTerm_of_between {cfg : Configuration} {n : Nat} (hok : cfg.sOk < n) (hbad : n < cfg.sBad) :
    spreadTerm cfg n = 300 * (n - cfg.sOk) / (cfg.sBad - cfg.sOk) := by
  unfold spreadTerm
  rw [if_neg (by omega), if_neg (by omega)]

theorem spreadTerm_of_sBad_le {cfg : Configuration} {n : Nat} (hok : cfg.sOk < n) (hbad : cfg.sBad ≤ n) :
    spreadTerm cfg n = 300 := by
  unfold spreadTerm
  rw [if_neg (by omega), if_pos hbad]

/-! ### The figures through the delivery -/

theorem AccountKept.hours (h : AccountKept a b) : b.hours = a.hours := by rw [h.form]

theorem AccountKept.restarted (h : AccountKept a b) : b.restarted = a.restarted := by rw [h.form]

theorem AccountKept.tt (h : AccountKept a b) : b.tt = a.tt := by rw [h.form]

theorem AccountKept.tq (h : AccountKept a b) : b.tq = a.tq := by rw [h.form]

theorem AccountKept.ts (h : AccountKept a b) : b.ts = a.ts := by rw [h.form]

theorem AccountKept.deficit (h : AccountKept a b) : b.deficit = a.deficit := by rw [h.form]

theorem AccountKept.urgency (h : AccountKept a b) : b.urgency = a.urgency := by rw [h.form]

/-! ### The obligation on the score -/

/-- Settles O25: each figure is that of ACC's stages, which the delivery keeps, and the presented score is read off the
account that the delivery leaves, with its force flag. -/
theorem scoreAndWaterFigures : Obligations.ScoreAndWaterFigures := by
  intro words s ends he hc
  obtain ⟨t, ht, hk⟩ := exec_sampleSet_account (words := words) he hc
  have hts := hk.ts.trans (acc_sampleSet_ts ..)
  have hspread (hv : t.mon.sFloatValid = true) : t.acc.ts = spreadTerm s.cfg.config t.mon.sFloat := by
    rw [hts, if_pos hv]
  refine ⟨t, ht, ?deficit, ?urgency, ?hours, ?restarted, ?tt, ?tq, fun hinvalid => ?tsStands,
    fun hv hok => ?tsLow, fun hv hok hbad => ?tsBetween, fun hv hok hbad => ?tsHigh, rfl⟩
  case deficit =>
    rw [hk.deficit, hk.gassing]
    exact acc_sampleSet_deficit ..
  case urgency =>
    rw [hk.urgency, hk.deficit]
    exact acc_sampleSet_urgency ..
  case hours => exact hk.hours.trans (acc_sampleSet_hours ..)
  case restarted => exact hk.restarted.trans (acc_sampleSet_restarted ..)
  case tt => exact hk.tt.trans (acc_sampleSet_tt ..)
  case tq =>
    rw [hk.tq, hk.discharged]
    exact acc_sampleSet_tq ..
  case tsStands => rw [hts, hinvalid, if_neg Bool.false_ne_true]
  case tsLow => rw [hspread hv, spreadTerm_of_le_sOk hok]
  case tsBetween => rw [hspread hv, spreadTerm_of_between hok hbad]
  case tsHigh => rw [hspread hv, spreadTerm_of_sBad_le hok hbad]

end Sys2Proof.Machine
end

section
/-! SUPPORT. Claim, Release and Report notices: what each makes of the record of its source, what CLM is told of the
change, and when a Claim new in the record makes the own pending claim lose (sections 6.2 to 6.4, 7.6 and 7.7). -/

namespace Sys2Proof.Machine

variable {s u : State} {p q : PeerRecord} {r : Resource} {code tag reason : Byte} {snapshot share : Nat}

/-! ### The codes of a notice (R97) -/

@[simp] theorem resourceOf_resourceCode (r : Resource) : resourceOf (resourceCode r) = some r := by cases r <;> rfl

theorem resourceOf_eq_none (h : code ≠ 1#8 ∧ code ≠ 2#8) : resourceOf code = none := by
  obtain ⟨heq, hwater⟩ := h
  unfold resourceOf
  rw [if_neg heq, if_neg hwater]

theorem reasonOf_eq_none_iff : reasonOf reason = none ↔ reason = 0#8 ∨ 4 < reason.toNat := by
  unfold reasonOf
  split_ifs with hdone hwithdrawn hyielded haborted
  · simp [hdone]
  · simp [hwithdrawn]
  · simp [hyielded]
  · simp [haborted]
  · simp only [true_iff]
    bv_omega

/-! ### The claim of a resource in a record -/

/-- The tag of the claim a record holds for a resource. -/
def PeerRecord.claimTag (p : PeerRecord) : Resource → Option Nat
  | .eq => p.eqClaim.map EqClaim.tag
  | .water => p.waterClaim.map WaterClaim.tag

/-- The record with a CONTENDING claim for a resource, as a Claim tells it (R102). -/
def PeerRecord.claiming (p : PeerRecord) (tag snapshot share : Nat) : Resource → PeerRecord
  | .eq => { p with eqClaim := some { tag := tag, share := share, snapshot := snapshot, phase := .contending } }
  | .water => { p with waterClaim := some { tag := tag, snapshot := snapshot, phase := .contending } }

/-- The record without its claim of a resource, where that has this tag (R103). -/
def PeerRecord.released (p : PeerRecord) (tag : Nat) : Resource → PeerRecord
  | .eq => { p with eqClaim := p.eqClaim.filter fun c => c.tag ≠ tag }
  | .water => { p with waterClaim := p.waterClaim.filter fun c => c.tag ≠ tag }

@[simp] theorem PeerRecord.claiming_address (p : PeerRecord) (tag snapshot share : Nat) (r : Resource) :
    (p.claiming tag snapshot share r).address = p.address := by cases r <;> rfl

theorem applyClaim_refused (h : (code ≠ 1#8 ∧ code ≠ 2#8) ∨ tag = 0#8 ∨ 1000 < snapshot) :
    applyClaim code tag snapshot share p = none := by
  unfold applyClaim
  split
  · rfl
  · next hcontents => rw [resourceOf_eq_none (h.resolve_right hcontents)]

theorem applyClaim_of_same_tag (ht : tag ≠ 0#8) (hs : snapshot ≤ 1000) (h : p.claimTag r = some tag.toNat) :
    applyClaim (resourceCode r) tag snapshot share p = some p := by
  have hcontents : ¬ (tag = 0#8 ∨ 1000 < snapshot) := by simp [ht, hs]
  unfold applyClaim
  rw [if_neg hcontents, resourceOf_resourceCode]
  cases r <;> exact if_pos h

theorem applyClaim_of_new_tag (ht : tag ≠ 0#8) (hs : snapshot ≤ 1000) (h : p.claimTag r ≠ some tag.toNat) :
    applyClaim (resourceCode r) tag snapshot share p = some (p.claiming tag.toNat snapshot share r) := by
  have hcontents : ¬ (tag = 0#8 ∨ 1000 < snapshot) := by simp [ht, hs]
  unfold applyClaim
  rw [if_neg hcontents, resourceOf_resourceCode]
  cases r <;> exact if_neg h

theorem applyRelease_refused (h : (code ≠ 1#8 ∧ code ≠ 2#8) ∨ tag = 0#8 ∨ reason = 0#8 ∨ 4 < reason.toNat) :
    applyRelease code tag reason p = none := by
  rw [← reasonOf_eq_none_iff] at h
  unfold applyRelease
  split
  · rfl
  · next hcontents => rw [resourceOf_eq_none (h.resolve_right hcontents)]

/-- Clearing a claim of this tag is keeping a claim of any other. -/
theorem filter_ne_eq_ite {α : Type} (o : Option α) (f : α → Nat) (n : Nat) :
    o.filter (fun c => f c ≠ n) = if o.map f = some n then none else o := by
  cases o with
  | none => rfl
  | some c => by_cases h : f c = n <;> simp [h]

theorem applyRelease_accepted (ht : tag ≠ 0#8) (hz : reason ≠ 0#8) (hr : reason.toNat ≤ 4) :
    applyRelease (resourceCode r) tag reason p = some (p.released tag.toNat r) := by
  have hcontents : ¬ (tag = 0#8 ∨ reasonOf reason = none) := by simp [reasonOf_eq_none_iff, ht, hz, hr]
  unfold applyRelease
  rw [if_neg hcontents, resourceOf_resourceCode]
  cases r with
  | eq =>
    simp only [PeerRecord.released, filter_ne_eq_ite p.eqClaim EqClaim.tag]
    split <;> rfl
  | water =>
    simp only [PeerRecord.released, filter_ne_eq_ite p.waterClaim WaterClaim.tag]
    split <;> rfl

/-! ### What CLM is told (R105) -/

theorem eqChange_self (c : Option EqClaim) : eqChange c c = .unchanged := by cases c <;> simp [eqChange]

theorem waterChange_self (c : Option WaterClaim) : waterChange c c = .unchanged := by cases c <;> simp [waterChange]

theorem eqChange_new {b : Option EqClaim} {c : EqClaim} (h : b.map EqClaim.tag ≠ some c.tag) :
    eqChange b (some c) = .new := by
  cases b with
  | none => rfl
  | some b => exact if_pos fun heq => h (congrArg some heq)

theorem waterChange_new {b : Option WaterClaim} {c : WaterClaim} (h : b.map WaterClaim.tag ≠ some c.tag) :
    waterChange b (some c) = .new := by
  cases b with
  | none => rfl
  | some b => exact if_pos fun heq => h (congrArg some heq)

/-- A claim taken out of a record causes no conflict test (R128). -/
theorem eqChange_filter_tests (c : Option EqClaim) (f : EqClaim → Bool) :
    (eqChange c (c.filter f)).tests = false := by
  cases c with
  | none => rfl
  | some c =>
    rw [Option.filter_some]
    split
    · rw [eqChange_self]
      rfl
    · rfl

theorem waterChange_filter_tests (c : Option WaterClaim) (f : WaterClaim → Bool) :
    (waterChange c (c.filter f)).tests = false := by
  cases c with
  | none => rfl
  | some c =>
    rw [Option.filter_some]
    split
    · rw [waterChange_self]
      rfl
    · rfl

/-- The state with this record in the peer table, in place of any of its address (R95). -/
def State.withRecord (s : State) (p : PeerRecord) : State := { s with ptb := putPeer p s.ptb }

theorem peerUpdated_of_waterClaim_eq (h : q.waterClaim = p.waterClaim) :
    peerUpdated p q s = testEqUpdate p q (s.withRecord q) :=
  testWaterUpdate_of_not_tests (by rw [h, waterChange_self]; rfl)

theorem peerUpdated_of_eqClaim_eq (h : q.eqClaim = p.eqClaim) :
    peerUpdated p q s = testWaterUpdate p q (s.withRecord q) :=
  congrArg (testWaterUpdate p q) (testEqUpdate_of_not_tests (by rw [h, eqChange_self]; rfl))

theorem peerUpdated_self : peerUpdated p p s = s.withRecord p := by
  rw [peerUpdated_of_waterClaim_eq rfl]
  exact testEqUpdate_of_not_tests (by rw [eqChange_self]; rfl)

/-- A claim that a Release removes is tested against no own claim (R105, R128). -/
theorem peerUpdated_released (p : PeerRecord) (tag : Nat) (r : Resource) :
    peerUpdated p (p.released tag r) s = s.withRecord (p.released tag r) := by
  cases r with
  | eq =>
    have hwater : (p.released tag .eq).waterClaim = p.waterClaim := rfl
    rw [peerUpdated_of_waterClaim_eq hwater]
    exact testEqUpdate_of_not_tests (eqChange_filter_tests ..)
  | water =>
    have heq : (p.released tag .water).eqClaim = p.eqClaim := rfl
    rw [peerUpdated_of_eqClaim_eq heq]
    exact testWaterUpdate_of_not_tests (waterChange_filter_tests ..)

/-! ### A Claim against the own pending claim (R125 to R128) -/

/-- The own claim of a resource is pending, and a CONTENDING claim of the record `q`, with this snapshot and share,
conflicts with it and outranks it (R125, R126, R127, R128). -/
structure LosesToClaim (r : Resource) (u : State) (q : PeerRecord) (snapshot share : Nat) : Prop where
  pending : claimPending (u.clm.machine r).state
  conflict : r = .eq → ¬ NoConflict u q share
  rank : Outranks snapshot q.address (u.clm.machine r).snapshot u.address

/-- A CONTENDING claim passes the tests of phase and rank exactly against a pending claim that it outranks
(R127, R128). -/
theorem tested_and_outranks_contending_iff {own : ClaimState} {n a n' a' : Nat} :
    (claimTested own = true ∧ outranks .contending n a (rankPhase own) n' a' = true) ↔
      claimPending own ∧ Outranks n a n' a' := by
  cases own with
  | queued | contending => simp [claimTested, rankPhase, claimPending, outranks_same_phase]
  | held => simp [rankPhase, outranks, claimPending]
  | none | releasing => simp [claimTested, claimPending]

theorem eqLoses_contending_iff {c : EqClaim} (hc : c.phase = .contending) :
    eqLoses u q c = true ↔ LosesToClaim .eq u q c.snapshot c.share := by
  unfold eqLoses
  rw [Bool.and_right_comm, Bool.and_eq_true, Bool.and_eq_true, hc, tested_and_outranks_contending_iff, eqConflict_iff]
  exact ⟨fun ⟨⟨hpending, hrank⟩, hconflict⟩ => ⟨hpending, fun _ => hconflict, hrank⟩,
    fun ⟨hpending, hconflict, hrank⟩ => ⟨⟨hpending, hrank⟩, hconflict rfl⟩⟩

theorem waterLoses_contending_iff {c : WaterClaim} (hc : c.phase = .contending) :
    waterLoses u q c = true ↔ LosesToClaim .water u q c.snapshot share := by
  unfold waterLoses
  rw [Bool.and_eq_true, hc, tested_and_outranks_contending_iff]
  exact ⟨fun ⟨hpending, hrank⟩ => ⟨hpending, nofun, hrank⟩, fun ⟨hpending, _, hrank⟩ => ⟨hpending, hrank⟩⟩

/-- A CONTENDING EQ claim of a new tag is tested against the own one (R105, R128). -/
theorem testEqUpdate_contending {c : EqClaim} (hc : q.eqClaim = some c) (hphase : c.phase = .contending)
    (hnew : p.eqClaim.map EqClaim.tag ≠ some c.tag) :
    (LosesToClaim .eq u q c.snapshot c.share → testEqUpdate p q u = claimOutranked .eq u) ∧
      (¬ LosesToClaim .eq u q c.snapshot c.share → testEqUpdate p q u = u) := by
  have htest : testEqUpdate p q u = if eqLoses u q c then claimOutranked .eq u else u := by
    simp only [testEqUpdate, hc, eqChange_new hnew, ChangeKind.tests, Bool.true_and]
  rw [htest, ← eqLoses_contending_iff hphase]
  exact ⟨fun h => if_pos h, fun h => if_neg h⟩

/-- A CONTENDING WATER claim of a new tag is tested against the own one (R105, R128). -/
theorem testWaterUpdate_contending {c : WaterClaim} (hc : q.waterClaim = some c) (hphase : c.phase = .contending)
    (hnew : p.waterClaim.map WaterClaim.tag ≠ some c.tag) :
    (LosesToClaim .water u q c.snapshot share → testWaterUpdate p q u = claimOutranked .water u) ∧
      (¬ LosesToClaim .water u q c.snapshot share → testWaterUpdate p q u = u) := by
  have htest : testWaterUpdate p q u = if waterLoses u q c then claimOutranked .water u else u := by
    simp only [testWaterUpdate, hc, waterChange_new hnew, ChangeKind.tests, Bool.true_and]
  rw [htest, ← waterLoses_contending_iff hphase]
  exact ⟨fun h => if_pos h, fun h => if_neg h⟩

/-- A Claim of a new tag is tested against the own claim of its resource, and against no other (R105, R128). -/
theorem peerUpdated_claiming {n : Nat} (hnew : p.claimTag r ≠ some n) (hq : q = p.claiming n snapshot share r) :
    (LosesToClaim r (s.withRecord q) q snapshot share → peerUpdated p q s = claimOutranked r (s.withRecord q)) ∧
      (¬ LosesToClaim r (s.withRecord q) q snapshot share → peerUpdated p q s = s.withRecord q) := by
  subst hq
  cases r with
  | eq =>
    have hwater : (p.claiming n snapshot share .eq).waterClaim = p.waterClaim := rfl
    rw [peerUpdated_of_waterClaim_eq hwater]
    exact testEqUpdate_contending (c := ⟨n, share, snapshot, .contending⟩) rfl rfl hnew
  | water =>
    have heq : (p.claiming n snapshot share .water).eqClaim = p.eqClaim := rfl
    rw [peerUpdated_of_eqClaim_eq heq]
    exact testWaterUpdate_contending (c := ⟨n, snapshot, .contending⟩) rfl rfl hnew

/-! ### The commands -/

/-- Claim: refused contents change nothing more, accepted ones update the record of the source (R97, R99, R102). -/
theorem exec_claimNotice_eq {after frame source} (hears : Hears s frame (.claim source code tag snapshot share)) :
    exec (.claimNotice after frame) s =
      .next ((applyClaim code tag snapshot share (renewedPeer s.ptb source)).elim (s.frameHeard after) fun q =>
        peerUpdated (renewedPeer s.ptb source) q (s.frameHeard after)) := by
  refine congrArg Host.Outcome.next ((hearFrame_eq after readClaim hears).trans ?_)
  show (match applyClaim code tag snapshot share (renewedPeer s.ptb source) with
    | some q => peerUpdated (renewedPeer s.ptb source) q (s.frameHeard after)
    | none => s.frameHeard after) = _
  cases applyClaim code tag snapshot share (renewedPeer s.ptb source) <;> rfl

/-- Release: refused contents change nothing more, accepted ones update the record of the source (R97, R99, R103). -/
theorem exec_releaseNotice_eq {after frame source} (hears : Hears s frame (.release source code tag reason)) :
    exec (.releaseNotice after frame) s =
      .next ((applyRelease code tag reason (renewedPeer s.ptb source)).elim (s.frameHeard after) fun q =>
        peerUpdated (renewedPeer s.ptb source) q (s.frameHeard after)) := by
  refine congrArg Host.Outcome.next ((hearFrame_eq after readRelease hears).trans ?_)
  show (match applyRelease code tag reason (renewedPeer s.ptb source) with
    | some q => peerUpdated (renewedPeer s.ptb source) q (s.frameHeard after)
    | none => s.frameHeard after) = _
  cases applyRelease code tag reason (renewedPeer s.ptb source) <;> rfl

/-! ### The obligations on the peer table -/

/-- Settles O43: a claim that goes is not tested, and a Report tells CLM nothing. -/
theorem releaseAndReportNotices : Obligations.ReleaseAndReportNotices := by
  intro after frame s source
  refine ⟨fun code tag reason hears => ⟨fun h => ?refused, ?release⟩, ?report⟩
  case refused => rw [exec_releaseNotice_eq hears, applyRelease_refused h, Option.elim_none]
  case release =>
    intro r p q hcode ht hz hr hp hq
    obtain rfl : code = resourceCode r := hcode
    obtain rfl : q = p.released tag.toNat r := hq.trans (by cases r <;> rfl)
    obtain rfl := renewedPeer_unique hp
    rw [exec_releaseNotice_eq hears, applyRelease_accepted ht hz hr, Option.elim_some, peerUpdated_released]
    exact ⟨_, rfl, putPeer_spec _ _, rfl⟩
  case report =>
    intro body p hears hp
    obtain rfl := renewedPeer_unique hp
    exact ⟨_, congrArg Host.Outcome.next (hearFrame_eq after readReport hears), putPeer_spec _ _, rfl⟩

/-- Settles O42: a claim of a tag held already is not told; a new one is tested against the own claim of its resource,
which loses only while pending, since a HELD claim outranks a CONTENDING one. -/
theorem claimNotices : Obligations.ClaimNotices := by
  intro after frame s source code tag snapshot share hears
  rw [exec_claimNotice_eq hears]
  refine ⟨fun h => by rw [applyClaim_refused h, Option.elim_none], ?_⟩
  intro r p q same hcode ht hs hp hsame hkept hnew
  obtain rfl : code = resourceCode r := hcode
  obtain rfl := renewedPeer_unique hp
  replace hsame : same ↔ (renewedPeer s.ptb source).claimTag r = some tag.toNat := hsame.trans (by cases r <;> rfl)
  replace hnew (h : ¬ same) : q = (renewedPeer s.ptb source).claiming tag.toNat snapshot share r :=
    (hnew h).trans (by cases r <;> rfl)
  have happly : applyClaim (resourceCode r) tag snapshot share (renewedPeer s.ptb source) = some q := by
    by_cases h : same
    · rw [hkept h, applyClaim_of_same_tag ht hs (hsame.1 h)]
    · rw [hnew h, applyClaim_of_new_tag ht hs (mt hsame.2 h)]
  rw [happly, Option.elim_some]
  refine ⟨(s.frameHeard after).withRecord q, _, rfl, putPeer_spec _ _, rfl, fun loses hloses => ?_⟩
  by_cases h : same
  · obtain rfl := hkept h
    exact ⟨fun _ => peerUpdated_self, fun hl => absurd h (hloses.1 hl).1⟩
  · have haddress : q.address = source := by rw [hnew h, PeerRecord.claiming_address, renewedPeer_address]
    obtain ⟨hlost, hstands⟩ := peerUpdated_claiming (s := s.frameHeard after) (mt hsame.2 h) (hnew h)
    refine ⟨fun hl => hstands fun ⟨hpending, hconflict, hrank⟩ =>
      hl (hloses.2 ⟨h, hpending, hconflict, haddress ▸ hrank⟩), fun hl hround => ?_⟩
    obtain ⟨-, hpending, hconflict, hrank⟩ := hloses.1 hl
    rw [hlost ⟨hpending, hconflict, haddress ▸ hrank⟩]
    exact claimOutranked_pending_spec (s := (s.frameHeard after).withRecord q) hround

end Sys2Proof.Machine
end

section
/-! SUPPORT. The order of conflicting claims (section 7.6): lexicographic by phase, snapshot and address. -/

namespace Sys2Proof.Machine

/-! ### The order by snapshot and address -/

theorem Outranks.trans {n a n' a' n'' a'' : Nat} (h : Outranks n a n' a') (h' : Outranks n' a' n'' a'') :
    Outranks n a n'' a'' := by
  unfold Outranks at *
  omega

theorem outranks_iff_not_outranked {n a n' a' : Nat} (ha : a ≠ a') : Outranks n a n' a' ↔ ¬ Outranks n' a' n a := by
  unfold Outranks
  omega

/-! ### The ranking by phase first -/

@[simp] theorem outranks_held_contending (n a n' a' : Nat) : outranks .held n a .contending n' a' = true := rfl

@[simp] theorem outranks_contending_held (n a n' a' : Nat) : outranks .contending n a .held n' a' = false := rfl

theorem outranks_iff_outranked_eq_false (p p' : ClaimPhase) (n n' : Nat) {a a' : Nat} (ha : a ≠ a') :
    outranks p n a p' n' a' = true ↔ outranks p' n' a' p n a = false := by
  cases p <;> cases p'
  case held.contending | contending.held => simp
  case held.held | contending.contending =>
    rw [← Bool.not_eq_true, outranks_same_phase, outranks_same_phase, outranks_iff_not_outranked ha]

/-- A chain of two either stays in one phase, or goes down from HELD to CONTENDING and never back up. -/
theorem outranks_trans {p p' p'' : ClaimPhase} {n n' n'' a a' a'' : Nat} (h : outranks p n a p' n' a' = true)
    (h' : outranks p' n' a' p'' n'' a'' = true) : outranks p n a p'' n'' a'' = true := by
  cases p <;> cases p' <;> cases p''
  case held.held.held | contending.contending.contending =>
    rw [outranks_same_phase] at h h' ⊢
    exact h.trans h'
  case held.held.contending | held.contending.contending => rfl
  case contending.held.held | contending.held.contending => cases h
  case held.contending.held | contending.contending.held => cases h'

/-! ### The own claim's loss -/

/-- A pending or HELD claim is tested, and ranks with the phase R127 gives it. -/
theorem claimTested_and_rankPhase {own : ClaimState} {phase : ClaimPhase}
    (h : (claimPending own ∧ phase = .contending) ∨ (own = .held ∧ phase = .held)) :
    claimTested own = true ∧ rankPhase own = phase := by
  obtain ⟨rfl | rfl, rfl⟩ | ⟨rfl, rfl⟩ := h <;> exact ⟨rfl, rfl⟩

/-- Settles O45: phase, snapshot and address make a lexicographic order, and an own claim that is tested loses by it
alone once an EQ claim's conflict is given. -/
theorem rankDecides : Obligations.RankDecides := by
  refine ⟨fun _ _ _ _ => ⟨outranks_held_contending .., outranks_contending_held ..⟩,
    fun _ _ _ _ _ => outranks_same_phase .., fun _ _ _ _ _ _ => outranks_iff_outranked_eq_false _ _ _ _,
    fun _ _ _ _ _ _ _ _ _ => outranks_trans, fun s p own => ⟨fun c hown hconflict => ?eq, fun c hown => ?water⟩⟩
  case eq =>
    obtain ⟨htested, hphase⟩ := claimTested_and_rankPhase hown
    rw [eqLoses, htested, hconflict, hphase, Bool.and_self, Bool.true_and]
  case water =>
    obtain ⟨htested, hphase⟩ := claimTested_and_rankPhase hown
    rw [waterLoses, htested, hphase, Bool.true_and]

end Sys2Proof.Machine
end

section
/-! SUPPORT. Steps and commands: that every command completes, what the commands of the round, the inputs and the account
leave alone of the node, and what a frame heard can set off. The first two obligations on the machine as a whole. -/

namespace Sys2Proof.Machine

open Sys2Proof

variable {s t u : State} {P Q : State → Prop}

/-! ### Completion -/

/-- A command completes, in a state with the property `P`. -/
def Completes (P : State → Prop) (o : Host.Outcome State Fault Refusal) : Prop := ∃ t, o = .next t ∧ P t

theorem Completes.of_next (h : P t) : Completes P (.next t) := ⟨t, rfl, h⟩

theorem Completes.imp {o : Host.Outcome State Fault Refusal} (h : Completes P o) (k : ∀ t, P t → Q t) :
    Completes Q o := by
  obtain ⟨t, ht, hp⟩ := h
  exact ⟨t, ht, k t hp⟩

theorem Completes.elim {o : Host.Outcome State Fault Refusal} (h : Completes P o) (ht : o = .next t) : P t := by
  obtain ⟨u, hu, hp⟩ := h
  obtain rfl := Host.Outcome.next.inj (hu.symm.trans ht)
  exact hp

/-- What an idle step and every command give, every step gives. -/
theorem step_of_exec (hidle : P s)
    (hexec : ∀ c rest, s.pending = c :: rest → Completes P (exec c { s with pending := rest }))
    (ht : step s = .next t) : P t := by
  unfold step at ht
  split at ht
  · obtain rfl := Host.Outcome.next.inj ht
    exact hidle
  · next c rest hp => exact (hexec c rest hp).elim ht

/-- Settles O1, by the two cases of the step. -/
theorem stepRunsFrontCommand : Obligations.StepRunsFrontCommand := by
  refine ⟨fun c rest s => rfl, fun s hs => ?_⟩
  unfold step
  rw [hs]

/-! ### What a frame heard can set off -/

/-- A property that the line's own fields do not touch, that a clash gives and that the reader of the frame gives, holds
after the frame (R76 to R80). -/
theorem hearFrame_induction (frame : List Byte) (reader : Notice → State → State) (hs : P s)
    (hidle : P { s with lin.idle := idleAfter (frameBits frame) s.now }) (hends : P (frameEnds s))
    (hclash : s.cfg.mode ≠ .starting → P (addressClash (frameEnds s)))
    (hread : ∀ n, s.cfg.mode ≠ .starting → decodeNotice s.cfg.config.nSite frame = some n → n.source ≠ s.address →
      P (reader n (frameEnds s))) : P (hearFrame frame reader s) := by
  unfold hearFrame
  split_ifs with hmode
  · exact hs
  · exact hidle
  · dsimp only
    split
    · exact hends
    · next n hn =>
      split_ifs with hown
      · exact hends
      · exact hclash hmode
      · exact hread n hmode hn hown

/-- The reader of each frame command. -/
def frameReader : Instr → Notice → State → State
  | .statusNotice _ _ => readStatus
  | .claimNotice _ _ => readClaim
  | .releaseNotice _ _ => readRelease
  | .reportNotice _ _ => readReport
  | .hold _ _ => readDirective .hold actHold
  | .stop _ _ => readDirective .stop actStop
  | .forceEq _ _ => readDirective .forceEq actForceEq
  | .forceWater _ _ => readDirective .forceWater actForceWater
  | .clear _ _ => readDirective .clear actClear
  | .query _ _ => readDirective .query actQuery
  | _ => fun _ s => s

/-- A frame command hears its frame with its reader (log entry 5). -/
theorem exec_frameCommand {c : Instr} {after : Nat} {frame : List Byte} (h : FrameCommand c after frame) (s : State) :
    exec c s = .next (hearFrame frame (frameReader c) (s.elapse after)) := by
  obtain rfl | rfl | rfl | rfl | rfl | rfl | rfl | rfl | rfl | rfl := h <;> rfl

theorem completes_frameCommand {c : Instr} {after : Nat} {frame : List Byte} (h : FrameCommand c after frame)
    (hp : FrameCommand c after frame → P (hearFrame frame (frameReader c) (s.elapse after))) :
    Completes P (exec c s) := by
  rw [exec_frameCommand h]
  exact .of_next (hp h)

/-! ### Commands that leave the node alone -/

/-- `t` differs from `s` in nothing that the line, the configuration and the peer table hold. -/
structure NodeKept (s t : State) : Prop where
  now : s.now ≤ t.now
  pending : t.pending = s.pending
  cfg : t.cfg = s.cfg
  lin : t.lin = s.lin
  ptb : t.ptb = s.ptb
  statusTimer : t.clm.statusTimer = s.clm.statusTimer

theorem NodeKept.refl (s : State) : NodeKept s s := ⟨le_rfl, rfl, rfl, rfl, rfl, rfl⟩

theorem NodeKept.trans (h : NodeKept s t) (k : NodeKept t u) : NodeKept s u :=
  ⟨h.now.trans k.now, k.pending.trans h.pending, k.cfg.trans h.cfg, k.lin.trans h.lin, k.ptb.trans h.ptb,
    k.statusTimer.trans h.statusTimer⟩

theorem NodeKept.reach (s : State) (d : Nat) : NodeKept s (s.reach d) := ⟨le_max_left _ _, rfl, rfl, rfl, rfl, rfl⟩

theorem NodeKept.elapse (s : State) (after : Nat) : NodeKept s (s.elapse after) :=
  ⟨Nat.le_add_right _ _, rfl, rfl, rfl, rfl, rfl⟩

theorem RoundFrame.nodeKept (h : RoundFrame s t) : NodeKept s t :=
  ⟨h.now.ge, h.pending, h.cfg, h.lin, h.ptb, h.statusTimer⟩

theorem nodeKept_levelEdge (i : LevelInput) (toActive : Bool) (s : State) : NodeKept s (levelEdge i toActive s) := by
  unfold levelEdge
  split
  · exact (frame_fbToEqualise s).nodeKept
  · exact (frame_fbToFloat s).nodeKept
  · exact (frame_chargerBecomesReady s).nodeKept
  · exact (frame_chargerLost s).nodeKept
  · exact (frame_probeToWet _ s).nodeKept
  · exact .refl s

theorem nodeKept_levelStands (i : LevelInput) (s : State) : NodeKept s (levelStands i s) := by
  unfold levelStands
  dsimp only
  split
  · exact (by constructor <;> rfl)
  · exact .trans (by constructor <;> rfl) (nodeKept_levelEdge _ _ _)

theorem nodeKept_flowTimerEnds (s : State) : NodeKept s (flowTimerEnds s) := by
  unfold flowTimerEnds
  dsimp only
  split
  · exact .trans (by constructor <;> rfl) (frame_flowPulse _).nodeKept
  all_goals exact (by constructor <;> rfl)

theorem nodeKept_makeClaim (r : Resource) (n k : Nat) (s : State) : NodeKept s (makeClaim r n k s) := by
  cases r <;> exact ⟨le_rfl, rfl, rfl, rfl, rfl, rfl⟩

theorem nodeKept_conditioned (words : List ScanWord) (s : State) : NodeKept s (conditioned words s) := by
  obtain ⟨q, h⟩ := conditioned_form (s := s) words
  rw [h]
  exact ⟨le_rfl, rfl, rfl, rfl, rfl, rfl⟩

/-- Another round state alone. -/
theorem nodeKept_round (x : RoundState) (s : State) : NodeKept s { s with rnd.round := x } :=
  ⟨le_rfl, rfl, rfl, rfl, rfl, rfl⟩

theorem NodeKept.ite {c : Prop} [Decidable c] (h : NodeKept s t) (k : NodeKept s u) :
    NodeKept s (if c then t else u) := by
  split
  · exact h
  · exact k

theorem nodeKept_roundSample (s : State) : NodeKept s (roundSample s) := by
  unfold roundSample
  cases s.rnd.round with
  | float => exact .ite (nodeKept_round _ s) (.ite (nodeKept_round _ s) (.refl s))
  | due => exact .ite (.ite ((nodeKept_makeClaim _ _ _ s).trans (nodeKept_round _ _)) (.refl s)) (nodeKept_round _ s)
  | waterDue => exact .ite (.ite ((nodeKept_makeClaim _ _ _ s).trans (nodeKept_round _ _)) (.refl s)) (nodeKept_round _ s)
  | claiming => exact .ite (.refl s) ((frame_withdraw .eq s).nodeKept.trans (nodeKept_round _ _))
  | waterClaiming => exact .ite (.refl s) ((frame_withdraw .water s).nodeKept.trans (nodeKept_round _ _))
  | prepare => exact (frame_prepareSample s).nodeKept
  | equalising | soak => exact (frame_equaliseSample s).nodeKept
  | transferBack => exact (frame_backSample s).nodeKept
  | transferOut | rest | watering | inhibited | stuck => exact .refl s

theorem nodeKept_deliverSampleSet (words : List ScanWord) (s : State) : NodeKept s (deliverSampleSet words s) :=
  ((nodeKept_conditioned words s).trans (nodeKept_roundSample _)).trans (frame_reduceShare _ _).nodeKept

/-- The commands of the account, the round, the inputs and the claim timers: they leave the node alone. -/
def keepsNode : Instr → Bool
  | .sampleSet _ | .hourExpiry | .contentionWindowExpiry _ | .backOffExpiry _ | .chargerWaitExpiry
  | .transferWindowExpiry | .recoveryCheckExpiry | .currentWaitExpiry | .restPeriodExpiry | .rawLevelChange _ _ _
  | .stabilityTimerExpiry _ | .flowEdge _ _ | .flowTimerExpiry | .earlyFlowLimitExpiry | .flowWindowExpiry
  | .openPeriodExpiry | .drainGraceExpiry | .offTimeExpiry | .roundLimitExpiry | .dryLatchExpiry
  | .pwmPeriodStart => true
  | _ => false

/-- The expiry of a timer: without effect when it does not run (log entry 3). -/
theorem completes_expiry {timer : Option Nat} {act : Nat → State} (hs : P s) (h : ∀ d, timer = some d → P (act d)) :
    Completes P (match (generalizing := false) timer with | some d => .next (act d) | none => .next s) := by
  cases timer with
  | none => exact .of_next hs
  | some d => exact .of_next (h d rfl)

theorem NodeKept.reached {d : Nat} (h : NodeKept (s.reach d) t) : NodeKept s t := (NodeKept.reach s d).trans h

theorem exec_nodeKept {c : Instr} (hc : keepsNode c = true) (s : State) : Completes (NodeKept s) (exec c s) := by
  cases c with
  | sampleSet words =>
    exact completes_expiry (.refl s) fun _ _ => (nodeKept_deliverSampleSet words _).reached
  | hourExpiry => exact .of_next (.reached (by constructor <;> rfl))
  | contentionWindowExpiry r => exact completes_expiry (.refl s) fun _ _ => (frame_windowExpires r _).nodeKept.reached
  | backOffExpiry r =>
    exact completes_expiry (.refl s) fun d _ => .reached (d := d) (by cases r <;> constructor <;> rfl)
  | chargerWaitExpiry => exact completes_expiry (.refl s) fun _ _ => (frame_prepareEnds _ _ _).nodeKept.reached
  | transferWindowExpiry =>
    exact completes_expiry (.refl s) fun _ _ => .reached (.trans (by constructor <;> rfl) (frame_transferLate _).nodeKept)
  | recoveryCheckExpiry =>
    show Completes _ (execRecoveryCheckExpiry s)
    unfold execRecoveryCheckExpiry
    split
    · exact .of_next (frame_enterStuck _).nodeKept.reached
    · exact .of_next (.refl s)
  | currentWaitExpiry => exact completes_expiry (.refl s) fun _ _ => (frame_commandFloatWithWindow _).nodeKept.reached
  | flowWindowExpiry => exact completes_expiry (.refl s) fun _ _ => (frame_flowWindowPasses _).nodeKept.reached
  | openPeriodExpiry => exact completes_expiry (.refl s) fun _ _ => (frame_closePulse _).nodeKept.reached
  | drainGraceExpiry | offTimeExpiry =>
    exact completes_expiry (.refl s) fun _ _ =>
      .reached (.trans (by constructor <;> rfl) (frame_checkClosedPeriod _).nodeKept)
  | roundLimitExpiry => exact completes_expiry (.refl s) fun _ _ => (frame_wateringEnds _ _ _).nodeKept.reached
  | restPeriodExpiry | earlyFlowLimitExpiry | dryLatchExpiry =>
    exact completes_expiry (.refl s) fun d _ => .reached (d := d) (by constructor <;> rfl)
  | stabilityTimerExpiry i => exact completes_expiry (.refl s) fun _ _ => (nodeKept_levelStands i _).reached
  | flowTimerExpiry => exact completes_expiry (.refl s) fun _ _ => (nodeKept_flowTimerEnds _).reached
  | rawLevelChange after | flowEdge after => exact .of_next ((NodeKept.elapse s after).trans (by constructor <;> rfl))
  | pwmPeriodStart => exact .of_next (.reached (by constructor <;> rfl))
  | _ => cases hc

/-! ### Directives -/

/-- `t` differs from `s` in nothing that a directive cannot touch: of the configuration the hold with its timer alone. -/
structure PanelFrame (s t : State) : Prop where
  now : t.now = s.now
  pending : t.pending = s.pending
  lin : t.lin = s.lin
  ptb : t.ptb = s.ptb
  statusTimer : t.clm.statusTimer = s.clm.statusTimer
  cfg : t.cfg = { s.cfg with hold := t.cfg.hold, holdTimer := t.cfg.holdTimer }
  hold : t.cfg.hold = s.cfg.hold ∧ t.cfg.holdTimer = s.cfg.holdTimer ∨ t.cfg.hold = t.cfg.holdTimer.isSome

theorem RoundFrame.panelFrame (h : RoundFrame s t) : PanelFrame s t where
  now := h.now
  pending := h.pending
  lin := h.lin
  ptb := h.ptb
  statusTimer := h.statusTimer
  cfg := by rw [h.cfg]
  hold := .inl (by rw [h.cfg]; exact ⟨rfl, rfl⟩)

theorem PanelFrame.refl (s : State) : PanelFrame s s := (RoundFrame.refl s).panelFrame

theorem PanelFrame.requestStatus (h : PanelFrame s t) : PanelFrame s (requestStatus t) := by
  obtain ⟨hnow, hpending, hlin, hptb, htimer, hcfg, hhold⟩ := h
  rw [requestStatus_eq]
  exact ⟨hnow, hpending, hlin, hptb, htimer, hcfg, hhold⟩

theorem PanelFrame.ite {c : Prop} [Decidable c] (h : PanelFrame s t) (k : PanelFrame s u) :
    PanelFrame s (if c then t else u) := by
  split
  · exact h
  · exact k

theorem panelFrame_actHold (m : Nat) (s : State) : PanelFrame s (actHold m s) := by
  unfold actHold
  refine .ite (.ite (.ite (.requestStatus ⟨rfl, rfl, rfl, rfl, rfl, rfl, .inr rfl⟩) (.refl s)) (.requestStatus ?_)) (.refl s)
  have hf : RoundFrame s (if s.cfg.hold then s else holdStarts s) := .ite (.refl s) (frame_holdStarts s)
  generalize (if s.cfg.hold then s else holdStarts s) = v at hf
  exact ⟨hf.now, hf.pending, hf.lin, hf.ptb, hf.statusTimer, by rw [hf.cfg], .inr rfl⟩

theorem panelFrame_actStop (m : Nat) (s : State) : PanelFrame s (actStop m s) :=
  .ite (.requestStatus (frame_stopActs s).panelFrame) (.refl s)

theorem panelFrame_actForceEq (m : Nat) (s : State) : PanelFrame s (actForceEq m s) :=
  .ite (.requestStatus ⟨rfl, rfl, rfl, rfl, rfl, rfl, .inl ⟨rfl, rfl⟩⟩) (.refl s)

theorem panelFrame_actForceWater (m : Nat) (s : State) : PanelFrame s (actForceWater m s) :=
  .ite (.requestStatus ⟨rfl, rfl, rfl, rfl, rfl, rfl, .inl ⟨rfl, rfl⟩⟩) (.refl s)

theorem panelFrame_actClear (m : Nat) (s : State) : PanelFrame s (actClear m s) :=
  .ite (.requestStatus (frame_clearLatches s).panelFrame) (.refl s)

theorem panelFrame_actQuery (m : Nat) (s : State) : PanelFrame s (actQuery m s) :=
  .ite ⟨rfl, rfl, rfl, rfl, rfl, rfl, .inl ⟨rfl, rfl⟩⟩ (.refl s)

theorem panelFrame_readDirective {act : Nat → State → State} (h : ∀ m s, PanelFrame s (act m s)) (d : Directive)
    (n : Notice) (s : State) : PanelFrame s (readDirective d act n s) := by
  unfold readDirective
  split
  · exact .ite (h _ s) (.refl s)
  all_goals exact .refl s

/-! ### Notices of peers -/

/-- The notice `n` gives the record `q` of its source: it is the renewed record of that address, or what the contents of
the notice make of it (R97 to R104). -/
inductive Tells (ptb : List PeerRecord) : Notice → PeerRecord → Prop
  | status {source b q} : applyStatus b (renewedPeer ptb source) = some q → Tells ptb (.status source b) q
  | claim {source resource tag snapshot share q} :
      applyClaim resource tag snapshot share (renewedPeer ptb source) = some q →
        Tells ptb (.claim source resource tag snapshot share) q
  | release {source resource tag reason q} :
      applyRelease resource tag reason (renewedPeer ptb source) = some q → Tells ptb (.release source resource tag reason) q
  | report {source body} : Tells ptb (.report source body) (renewedPeer ptb source)

/-- What a reader of peers does with a notice: nothing, or the record told is written and CLM may act on it (R105). -/
def PeerReading (n : Notice) (s t : State) : Prop := t = s ∨ ∃ q, Tells s.ptb n q ∧ RoundFrame (s.withRecord q) t

theorem readStatus_reading (n : Notice) (s : State) : PeerReading n s (readStatus n s) := by
  unfold readStatus
  split
  · dsimp only
    split
    · next h => exact .inr ⟨_, .status h, frame_peerUpdated _ _ s⟩
    · exact .inl rfl
  all_goals exact .inl rfl

theorem readClaim_reading (n : Notice) (s : State) : PeerReading n s (readClaim n s) := by
  unfold readClaim
  split
  · dsimp only
    split
    · next h => exact .inr ⟨_, .claim h, frame_peerUpdated _ _ s⟩
    · exact .inl rfl
  all_goals exact .inl rfl

theorem readRelease_reading (n : Notice) (s : State) : PeerReading n s (readRelease n s) := by
  unfold readRelease
  split
  · dsimp only
    split
    · next h => exact .inr ⟨_, .release h, frame_peerUpdated _ _ s⟩
    · exact .inl rfl
  all_goals exact .inl rfl

theorem readReport_reading (n : Notice) (s : State) : PeerReading n s (readReport n s) := by
  unfold readReport
  split
  · exact .inr ⟨_, .report, .refl _⟩
  all_goals exact .inl rfl

/-- What the reader of a frame command does with a notice: it acts on a directive or reads a peer's notice. -/
theorem frameReader_cases {c : Instr} {after : Nat} {frame : List Byte} (h : FrameCommand c after frame) (n : Notice)
    (s : State) : PanelFrame s (frameReader c n s) ∨ PeerReading n s (frameReader c n s) := by
  obtain rfl | rfl | rfl | rfl | rfl | rfl | rfl | rfl | rfl | rfl := h
  · exact .inr (readStatus_reading n s)
  · exact .inr (readClaim_reading n s)
  · exact .inr (readRelease_reading n s)
  · exact .inr (readReport_reading n s)
  · exact .inl (panelFrame_readDirective panelFrame_actHold _ n s)
  · exact .inl (panelFrame_readDirective panelFrame_actStop _ n s)
  · exact .inl (panelFrame_readDirective panelFrame_actForceEq _ n s)
  · exact .inl (panelFrame_readDirective panelFrame_actForceWater _ n s)
  · exact .inl (panelFrame_readDirective panelFrame_actClear _ n s)
  · exact .inl (panelFrame_readDirective panelFrame_actQuery _ n s)

/-! ### Leaving the line, and a completed attempt -/

/-- The state with what the entry to ISOLATED or SILENT sets outside RND and CLM's machines (R89, R92). -/
def State.offLine (s : State) (mode : NodeMode) : State :=
  { s with
    cfg.mode := mode
    cfg.joiningTimer := none
    clm.statusTimer := none
    clm.reportQueued := false
    lin.attempt := none
    lin.recovering := false
    lin.retry := 0
    lin.isolationTimer := if mode = .isolated then some (s.now + isolationUs) else none }

theorem frame_leaveLine (mode : NodeMode) (cause : AbortCause) (s : State) :
    RoundFrame (s.offLine mode) (leaveLine mode cause s) := by
  unfold leaveLine dropClaims
  dsimp only
  generalize hq : ({ s with cfg.mode := mode, cfg.joiningTimer := none, clm.statusTimer := none, lin.attempt := none,
                            lin.recovering := false, lin.isolationTimer := none } : State) = quiet
  have hf := frame_roundLeavesLine cause quiet
  subst hq
  obtain ⟨h1, h2, h3, h4, h5, h6, h7, h8, h9, h10, h11, h12, -, h14, h15, h16⟩ := hf
  exact ⟨h1, h2, h3, h4, h5, h6, h7, by rw [h8]; rfl, h9, h10, h11, h12, rfl, h14, h15, h16⟩

/-- The three outcomes of one more failure (R88, R89, R91). -/
theorem countRetry_cases (s : State) :
    (s.lin.recovering = true ∧ countRetry s = recoveryFails s) ∨
      (s.lin.recovering = false ∧ 7 ≤ s.lin.retry ∧ countRetry s = leaveLine .isolated .line s) ∨
      (s.lin.recovering = false ∧ s.lin.retry < 7 ∧ countRetry s = { s with lin.retry := s.lin.retry + 1 }) := by
  unfold countRetry
  split_ifs with hr hc
  · exact .inl ⟨hr, rfl⟩
  · exact .inr (.inl ⟨by simpa using hr, by omega, rfl⟩)
  · exact .inr (.inr ⟨by simpa using hr, by omega, rfl⟩)

/-- What a completed attempt does for a notice of the queue leaves the node alone (R87, R118). -/
theorem nodeKept_noticeSent {k : NoticeKey} (hk : k ≠ .recovery) (s : State) : NodeKept s (noticeSent k s) := by
  cases k with
  | release r tag => exact (frame_releaseCompleted r tag s).nodeKept
  | claim r tag => exact (frame_claimCompleted r tag s).nodeKept
  | report | status => exact ⟨le_rfl, rfl, rfl, rfl, rfl, rfl⟩
  | recovery => exact absurd rfl hk

/-! ### Time, the queue and what stands once read -/

/-- What every command but RESET gives (R184, R191): the waiting commands and what has been read stand, and time does not
turn back. -/
structure Proceeds (s t : State) : Prop where
  pending : t.pending = s.pending
  now : s.now ≤ t.now
  read : s.cfg.readEnded = true →
    t.cfg.readEnded = true ∧ t.cfg.config = s.cfg.config ∧ t.cfg.failed = s.cfg.failed ∧ t.cfg.clamped = s.cfg.clamped
  address : ∀ a, s.cfg.address = some a → t.cfg.address = some a

/-- The same record and address in force, the same commands waiting, no earlier time. -/
theorem Proceeds.of_same (hp : t.pending = s.pending) (hn : s.now ≤ t.now)
    (hc : t.cfg = { s.cfg with mode := t.cfg.mode, selfTest := t.cfg.selfTest, hold := t.cfg.hold,
                               holdTimer := t.cfg.holdTimer, joiningTimer := t.cfg.joiningTimer }) : Proceeds s t := by
  refine ⟨hp, hn, fun hr => ?_, fun a ha => ?_⟩
  · rw [hc]
    exact ⟨hr, rfl, rfl, rfl⟩
  · rw [hc]
    exact ha

theorem Proceeds.trans (h : Proceeds s t) (k : Proceeds t u) : Proceeds s u where
  pending := k.pending.trans h.pending
  now := h.now.trans k.now
  read hr := by
    obtain ⟨hr', hc, hf, hm⟩ := h.read hr
    obtain ⟨kr, kc, kf, km⟩ := k.read hr'
    exact ⟨kr, kc.trans hc, kf.trans hf, km.trans hm⟩
  address a ha := k.address a (h.address a ha)

theorem Proceeds.after (k : Proceeds t u) (h : Proceeds s t) : Proceeds s u := h.trans k

theorem NodeKept.proceeds (h : NodeKept s t) : Proceeds s t :=
  .of_same h.pending h.now (by rw [h.cfg])

theorem Proceeds.refl (s : State) : Proceeds s s := (NodeKept.refl s).proceeds

theorem Proceeds.elapse (s : State) (after : Nat) : Proceeds s (s.elapse after) := (NodeKept.elapse s after).proceeds

theorem Proceeds.reach (s : State) (d : Nat) : Proceeds s (s.reach d) := (NodeKept.reach s d).proceeds

theorem PanelFrame.proceeds (h : PanelFrame s t) : Proceeds s t :=
  .of_same h.pending h.now.ge (by rw [h.cfg])

theorem PeerReading.proceeds {n : Notice} (h : PeerReading n s t) : Proceeds s t := by
  obtain rfl | ⟨q, -, hf⟩ := h
  · exact .refl _
  · exact .trans (t := s.withRecord q) (.of_same rfl le_rfl rfl) hf.nodeKept.proceeds

theorem proceeds_leaveLine (mode : NodeMode) (cause : AbortCause) (s : State) : Proceeds s (leaveLine mode cause s) :=
  .trans (t := s.offLine mode) (.of_same rfl le_rfl rfl) (frame_leaveLine mode cause s).nodeKept.proceeds

theorem proceeds_countRetry (s : State) : Proceeds s (countRetry s) := by
  obtain ⟨-, h⟩ | ⟨-, -, h⟩ | ⟨-, -, h⟩ := countRetry_cases s
  · rw [h]
    exact .of_same rfl le_rfl rfl
  · rw [h]
    exact proceeds_leaveLine _ _ s
  · rw [h]
    exact .of_same rfl le_rfl rfl

theorem proceeds_checkStartUp (s : State) : Proceeds s (checkStartUp s) := by
  unfold checkStartUp leaveStarting
  dsimp only
  split_ifs <;> exact .of_same rfl le_rfl rfl

theorem proceeds_noticeSent (k : NoticeKey) (s : State) : Proceeds s (noticeSent k s) := by
  by_cases hk : k = .recovery
  · subst hk
    exact .of_same rfl le_rfl rfl
  · exact (nodeKept_noticeSent hk s).proceeds

theorem proceeds_hearFrame {c : Instr} {after : Nat} {frame : List Byte} (h : FrameCommand c after frame) (s : State) :
    Proceeds s (hearFrame frame (frameReader c) s) := by
  have hends : Proceeds s (frameEnds s) := .of_same rfl le_rfl rfl
  refine hearFrame_induction frame _ (.refl s) ?_ hends (fun _ => hends.trans (proceeds_leaveLine _ _ _))
    fun n _ _ _ => hends.trans ?_
  · exact .of_same rfl le_rfl rfl
  · obtain hp | hp := frameReader_cases h n (frameEnds s)
    · exact hp.proceeds
    · exact hp.proceeds

/-- The commands of the own line change nothing of LIN but what an attempt, a retry or a recovery sets. -/
theorem exec_proceeds {c : Instr} (hc : c ≠ .reset) (s : State) : Completes (Proceeds s) (exec c s) := by
  have htime (after : Nat) : Proceeds s (s.elapse after) := .elapse s after
  cases c with
  | reset => exact absurd rfl hc
  | statusNotice after frame | claimNotice after frame | releaseNotice after frame | reportNotice after frame
  | hold after frame | stop after frame | forceEq after frame | forceWater after frame | clear after frame
  | query after frame =>
    exact completes_frameCommand (after := after) (frame := frame) (by simp [FrameCommand]) fun h =>
      (htime after).trans (proceeds_hearFrame h _)
  | strapsSettled after straps =>
    show Completes _ (execStrapsSettled after straps s)
    unfold execStrapsSettled
    dsimp only
    split
    · split_ifs with hset
      · exact .of_next (htime after)
      · have ha : s.cfg.address = none := by
          simp only [not_or, Bool.not_eq_true, Option.isSome_eq_false_iff, Option.isNone_iff_eq_none] at hset
          exact hset.2
        refine .of_next ((proceeds_checkStartUp _).after
          ⟨rfl, Nat.le_add_right _ _, fun hr => ⟨hr, rfl, rfl, rfl⟩, fun a h => ?_⟩)
        rw [ha] at h
        cases h
    · exact .of_next (htime after)
  | configurationRead record =>
    show Completes _ (execConfigurationRead record s)
    unfold execConfigurationRead
    split_ifs with hread hpass
    · exact .of_next (.refl s)
    · exact .of_next ⟨rfl, le_max_left _ _, fun h => absurd h hread, fun a h => h⟩
    · exact .of_next ⟨rfl, le_max_left _ _, fun h => absurd h hread, fun a h => h⟩
  | selfTest looped =>
    show Completes _ (execSelfTest looped s)
    unfold execSelfTest
    split
    · exact .of_next ((proceeds_checkStartUp _).after (.of_same rfl (le_max_left _ _) rfl))
    all_goals exact .of_next (.refl s)
  | scanStart => exact .of_next (.of_same rfl (le_max_left _ _) rfl)
  | lineBreak after | framingError after => exact .of_next (.of_same rfl (Nat.le_add_right _ _) rfl)
  | lineIdle after =>
    show Completes _ (execLineIdle after s)
    unfold execLineIdle
    dsimp only
    split_ifs
    · exact .of_next (htime after)
    · exact .of_next (.of_same rfl (Nat.le_add_right _ _) rfl)
  | dominantCount after =>
    show Completes _ (execDominantCount after s)
    unfold execDominantCount
    dsimp only
    split_ifs
    · exact .of_next ((proceeds_countRetry _).after (.of_same rfl (Nat.le_add_right _ _) rfl))
    · exact .of_next (.of_same rfl (Nat.le_add_right _ _) rfl)
  | attemptStart after =>
    show Completes _ (execAttemptStart after s)
    unfold execAttemptStart
    dsimp only
    split_ifs
    · split
      · exact .of_next (.of_same rfl (Nat.le_add_right _ _) rfl)
      · exact .of_next (htime after)
    · exact .of_next (htime after)
  | arbitrationLost after =>
    show Completes _ (execArbitrationLost after s)
    unfold execArbitrationLost
    dsimp only
    split
    · split_ifs
      · exact .of_next (.of_same rfl (Nat.le_add_right _ _) rfl)
      · exact .of_next (htime after)
    · exact .of_next (htime after)
  | bitError after =>
    show Completes _ (execBitError after s)
    unfold execBitError
    dsimp only
    split
    · split_ifs
      · exact .of_next ((proceeds_countRetry _).after (.of_same rfl (Nat.le_add_right _ _) rfl))
      · exact .of_next (htime after)
    · exact .of_next (htime after)
  | attemptComplete =>
    show Completes _ (execAttemptComplete s)
    unfold execAttemptComplete
    split
    · exact .of_next ((proceeds_noticeSent _ _).after (.of_same rfl (le_max_left _ _) rfl))
    · exact .of_next (.refl s)
  | frameAbandoned heard =>
    show Completes _ (execFrameAbandoned heard s)
    unfold execFrameAbandoned
    dsimp only
    split_ifs
    · exact .of_next (.of_same rfl (Nat.le_add_right _ _) rfl)
    · exact .of_next (htime _)
  | frameDiscarded after =>
    show Completes _ (execFrameDiscarded after s)
    unfold execFrameDiscarded
    dsimp only
    split_ifs
    · exact .of_next (htime after)
    · exact .of_next (.of_same rfl (Nat.le_add_right _ _) rfl)
  | recoveryAttempt | joiningTimerExpiry =>
    exact completes_expiry (.refl s) fun _ _ => .of_same rfl (le_max_left _ _) rfl
  | statusPeriodExpiry | holdTimerExpiry =>
    exact completes_expiry (.refl s) fun _ _ => by
      rw [requestStatus_eq]
      exact .of_same rfl (le_max_left _ _) rfl
  | _ => exact (exec_nodeKept rfl s).imp fun t h => h.proceeds

/-- Settles O2: RESET by its arm, every other command by what it gives. -/
theorem everyCommandCompletes : Obligations.EveryCommandCompletes := by
  intro c s
  by_cases hc : c = .reset
  · subst hc
    exact ⟨_, rfl, rfl, fun h => absurd rfl h⟩
  · obtain ⟨t, ht, hp⟩ := exec_proceeds hc s
    exact ⟨t, ht, hp.pending, fun _ => ⟨hp.now, hp.read, hp.address⟩⟩

end Sys2Proof.Machine
end

section
/-! SUPPORT. The node mode and what goes with it: every command keeps it. -/

namespace Sys2Proof.Machine

open Sys2Proof

variable {s t u : State}

/-! ### What the mode and its timers rest on -/

/-- The same node and the same attempt, or none. -/
theorem ModesKept.line (h : ModesKept s) (hcfg : t.cfg = s.cfg)
    (htimer : t.clm.statusTimer.isSome = s.clm.statusTimer.isSome) (hisolation : t.lin.isolationTimer = s.lin.isolationTimer)
    (hrecovering : t.lin.recovering = s.lin.recovering)
    (hattempt : t.lin.attempt = s.lin.attempt ∨ t.lin.attempt = none) : ModesKept t := by
  obtain ⟨h1, h2, h3, h4, h5, h6, h7, h8⟩ := h
  refine ⟨by rwa [hcfg], by rwa [hcfg], by rwa [hcfg], by rwa [hisolation, hrecovering, hcfg],
    by rwa [hisolation, hrecovering], fun a ha => ?_, by rwa [htimer, hcfg], by rwa [hcfg]⟩
  obtain hsame | hnone := hattempt
  · rw [hrecovering, hcfg]
    exact h6 a (hsame ▸ ha)
  · cases hnone.symm.trans ha

theorem NodeKept.modesKept (k : NodeKept s t) (h : ModesKept s) : ModesKept t :=
  h.line k.cfg (by rw [k.statusTimer]) (by rw [k.lin]) (by rw [k.lin]) (.inl (by rw [k.lin]))

theorem PanelFrame.modesKept (k : PanelFrame s t) (h : ModesKept s) : ModesKept t := by
  obtain ⟨h1, h2, h3, h4, h5, h6, h7, h8⟩ := h
  have hhold : t.cfg.holdTimer.isSome = true ↔ t.cfg.hold = true := by
    obtain ⟨hh, ht⟩ | hh := k.hold
    · rwa [hh, ht]
    · rw [hh]
  have hmode : t.cfg.mode = s.cfg.mode := by rw [k.cfg]
  have hread : t.cfg.readEnded = s.cfg.readEnded := by rw [k.cfg]
  have haddress : t.cfg.address = s.cfg.address := by rw [k.cfg]
  have htest : t.cfg.selfTest = s.cfg.selfTest := by rw [k.cfg]
  have hjoining : t.cfg.joiningTimer = s.cfg.joiningTimer := by rw [k.cfg]
  refine ⟨?_, ?_, ?_, ?_, ?_, ?_, ?_, hhold⟩ <;>
    simp only [hmode, hread, haddress, htest, hjoining, k.lin, k.statusTimer] <;> assumption

/-- A node that goes on leaving the line has left STARTING (R89, R92). -/
theorem ModesKept.offLine (h : ModesKept s) {mode : NodeMode} (hleft : s.cfg.mode ≠ .starting)
    (hmode : mode = .isolated ∨ mode = .silent) : ModesKept (s.offLine mode) := by
  obtain ⟨hread, haddress⟩ := h.started hleft
  obtain rfl | rfl := hmode <;>
    exact ⟨fun _ => ⟨hread, haddress⟩, fun _ => hread, by simp [State.offLine], by simp [State.offLine],
      by simp [State.offLine], fun a ha => (nomatch ha), by simp [State.offLine, queueOpen], h.hold⟩

theorem modesKept_leaveLine (h : ModesKept s) {mode : NodeMode} (hleft : s.cfg.mode ≠ .starting)
    (hmode : mode = .isolated ∨ mode = .silent) (cause : AbortCause) : ModesKept (leaveLine mode cause s) :=
  (frame_leaveLine mode cause s).nodeKept.modesKept (h.offLine hleft hmode)

/-- One more failure comes in a recovery or in a mode that sends from the queue (R88, R89, R91). -/
theorem modesKept_countRetry (h : ModesKept s) (hattempt : s.lin.attempt = none)
    (hopen : s.lin.recovering = true ∨ queueOpen s.cfg.mode = true) : ModesKept (countRetry s) := by
  obtain ⟨hrec, heq⟩ | ⟨hrec, -, heq⟩ | ⟨hrec, -, heq⟩ := countRetry_cases s
  · have hmode : s.cfg.mode = .isolated := h.isolation.mp (.inr hrec)
    rw [heq]
    refine ⟨h.started, h.tested, h.joining, ⟨fun _ => hmode, fun _ => .inl rfl⟩, fun _ => rfl, fun a ha => ?_,
      h.statusPeriod, h.hold⟩
    cases hattempt.symm.trans ha
  · rw [heq]
    refine modesKept_leaveLine h (fun hs => ?_) (.inl rfl) _
    rw [hrec, hs] at hopen
    simp [queueOpen] at hopen
  · rw [heq]
    exact h.line rfl rfl rfl rfl (.inl rfl)

theorem ModesKept.not_starting_of_attempt (h : ModesKept s) {a : Attempt} (ha : s.lin.attempt = some a) :
    s.lin.recovering = true ∨ queueOpen s.cfg.mode = true := by
  have hs := h.sending a ha
  cases hr : s.lin.recovering with
  | true => exact .inl rfl
  | false =>
    rw [hr] at hs
    exact .inr hs.2

/-- The recovery Status alone is sent in a recovery, and a recovery is of an ISOLATED node (R82, R91). -/
theorem ModesKept.isolated_of_recovery (h : ModesKept s) {a : Attempt} (ha : s.lin.attempt = some a)
    (hn : a.notice = .recovery) : s.cfg.mode = .isolated := by
  have hs := h.sending a ha
  cases hr : s.lin.recovering with
  | true => exact h.isolation.mp (.inr hr)
  | false =>
    rw [hr] at hs
    exact absurd hn hs.1

/-- The recovery Status sent, the node is JOINING again (R91). -/
theorem modesKept_recoverySent (h : ModesKept s) (hmode : s.cfg.mode = .isolated) (hattempt : s.lin.attempt = none) :
    ModesKept (noticeSent .recovery s) where
  started _ := h.started (by rw [hmode]; exact NodeMode.noConfusion)
  tested _ := (h.started (by rw [hmode]; exact NodeMode.noConfusion)).1
  joining := ⟨fun _ => rfl, fun _ => rfl⟩
  isolation := by simp [noticeSent, enterJoining, startStatusTimer]
  recovery _ := rfl
  sending a ha := by cases hattempt.symm.trans ha
  statusPeriod := ⟨fun _ => rfl, fun _ => rfl⟩
  hold := h.hold

/-- In STARTING no timer of a mode runs and nothing is sent (R82, R190). -/
theorem ModesKept.quiet (h : ModesKept s) (hmode : s.cfg.mode = .starting) :
    s.cfg.joiningTimer = none ∧ s.lin.isolationTimer = none ∧ s.lin.recovering = false ∧ s.lin.attempt = none ∧
      s.clm.statusTimer = none := by
  have hj := h.joining
  have hi := h.isolation
  have hp := h.statusPeriod
  rw [hmode] at hj hi hp
  simp only [queueOpen, reduceCtorEq, iff_false, not_or, Bool.not_eq_true, Option.isSome_eq_false_iff,
    Option.isNone_iff_eq_none] at hj hi hp
  refine ⟨hj, hi.1, hi.2, ?_, hp⟩
  cases ha : s.lin.attempt with
  | none => rfl
  | some a =>
    have ho := h.not_starting_of_attempt ha
    rw [hi.2, hmode] at ho
    simp [queueOpen] at ho

/-- The end of start-up, with the address settled and the self-test over (R190). -/
theorem modesKept_checkStartUp (h : ModesKept s) : ModesKept (checkStartUp s) := by
  unfold checkStartUp
  split_ifs with hend
  swap
  · exact h
  obtain ⟨hmode, haddress, hended⟩ := hend
  obtain ⟨hjoining, hisolation, hrec, hattempt, htimer⟩ := h.quiet hmode
  have hread : s.cfg.readEnded = true := h.tested fun hn => by simp [hn, SelfTest.ended] at hended
  have hno : ∀ a, s.lin.attempt = some a → False := fun a ha => by cases hattempt.symm.trans ha
  unfold leaveStarting
  dsimp only
  split_ifs
  · exact ⟨fun _ => ⟨hread, haddress⟩, fun _ => hread, by simp [hjoining], by simp [hisolation, hrec], fun _ => hrec,
      fun a ha => (hno a ha).elim, by simp [htimer, queueOpen], h.hold⟩
  · exact ⟨fun _ => ⟨hread, haddress⟩, fun _ => hread, by simp [startStatusTimer, hjoining],
      by simp [startStatusTimer, hisolation, hrec], fun _ => hrec, fun a ha => (hno a ha).elim,
      by simp [startStatusTimer, queueOpen], h.hold⟩
  · exact ⟨fun _ => ⟨hread, haddress⟩, fun _ => hread, by simp [enterJoining, startStatusTimer],
      by simp [enterJoining, startStatusTimer, hisolation, hrec], fun _ => hrec, fun a ha => (hno a ha).elim,
      by simp [enterJoining, startStatusTimer, queueOpen], h.hold⟩

/-- A notice waits in a recovery or in a mode that sends from the queue, and is the recovery Status in a recovery
alone (R82, R91). -/
theorem nextNotice_spec {k : NoticeKey} (h : s.nextNotice = some k) :
    if s.lin.recovering then k = .recovery else k ≠ .recovery ∧ queueOpen s.cfg.mode = true := by
  unfold State.nextNotice Clm.queueHead at h
  cases hr : s.lin.recovering with
  | true =>
    rw [hr] at h
    exact (Option.some.inj h).symm
  | false =>
    rw [hr] at h
    simp only [Bool.false_eq_true, if_false] at h ⊢
    split_ifs at h with ho <;> obtain rfl := Option.some.inj h <;> exact ⟨NoticeKey.noConfusion, ho⟩

theorem modesKept_hearFrame {c : Instr} {after : Nat} {frame : List Byte} (hc : FrameCommand c after frame)
    (h : ModesKept s) : ModesKept (hearFrame frame (frameReader c) s) := by
  have hends : ModesKept (frameEnds s) := h.line rfl rfl rfl rfl (.inl rfl)
  refine hearFrame_induction frame _ h (h.line rfl rfl rfl rfl (.inl rfl)) hends
    (fun hmode => modesKept_leaveLine hends hmode (.inr rfl) _) fun n _ _ _ => ?_
  obtain hp | rfl' | ⟨q, -, hp⟩ := frameReader_cases hc n (frameEnds s)
  · exact hp.modesKept hends
  · rw [rfl']
    exact hends
  · exact hp.nodeKept.modesKept (s := (frameEnds s).withRecord q) (hends.line rfl rfl rfl rfl (.inl rfl))

/-! ### Every command -/

theorem modesKept_afterReset (s : State) : ModesKept (afterReset s) :=
  ⟨fun hm => absurd rfl hm, fun hm => absurd rfl hm, by simp [afterReset, State.reset],
    by simp [afterReset, State.reset], fun _ => rfl, fun a ha => (nomatch ha), by simp [afterReset, State.reset, queueOpen],
    by simp [afterReset, State.reset]⟩

theorem exec_modesKept (c : Instr) (h : ModesKept s) : Completes ModesKept (exec c s) := by
  have htime (after : Nat) : ModesKept (s.elapse after) := (NodeKept.elapse s after).modesKept h
  have hreach (d : Nat) : ModesKept (s.reach d) := (NodeKept.reach s d).modesKept h
  cases c with
  | reset =>
    exact .of_next (modesKept_afterReset s)
  | statusNotice after frame | claimNotice after frame | releaseNotice after frame | reportNotice after frame
  | hold after frame | stop after frame | forceEq after frame | forceWater after frame | clear after frame
  | query after frame =>
    exact completes_frameCommand (after := after) (frame := frame) (by simp [FrameCommand]) fun hc =>
      modesKept_hearFrame hc (htime after)
  | strapsSettled after straps =>
    show Completes _ (execStrapsSettled after straps s)
    unfold execStrapsSettled
    dsimp only
    split
    · split_ifs
      · exact .of_next (htime after)
      · exact .of_next (modesKept_checkStartUp ⟨fun hm => ⟨(h.started hm).1, rfl⟩, h.tested, h.joining, h.isolation,
          h.recovery, h.sending, h.statusPeriod, h.hold⟩)
    · exact .of_next (htime after)
  | configurationRead record =>
    have hconfigure (c : Configuration) (failed clamped : Bool) :
        ModesKept (configure c failed clamped (s.reach configurationReadUs)) :=
      ⟨fun hm => ⟨rfl, (h.started hm).2⟩, fun _ => rfl, h.joining, h.isolation, h.recovery, h.sending, h.statusPeriod,
        h.hold⟩
    show Completes _ (execConfigurationRead record s)
    unfold execConfigurationRead
    split_ifs
    · exact .of_next h
    · exact .of_next (hconfigure _ _ _)
    · exact .of_next (hconfigure _ _ _)
  | selfTest looped =>
    show Completes _ (execSelfTest looped s)
    unfold execSelfTest
    split
    · next d hrun =>
      have hread : s.cfg.readEnded = true := h.tested fun hn => by rw [hrun] at hn; cases hn
      exact .of_next (modesKept_checkStartUp ⟨h.started, fun _ => hread, h.joining, h.isolation, h.recovery, h.sending,
        h.statusPeriod, h.hold⟩)
    all_goals exact .of_next h
  | scanStart => exact .of_next (h.line rfl rfl rfl rfl (.inl rfl))
  | lineBreak after | framingError after => exact .of_next (h.line rfl rfl rfl rfl (.inl rfl))
  | lineIdle after =>
    show Completes _ (execLineIdle after s)
    unfold execLineIdle
    dsimp only
    split_ifs
    · exact .of_next (htime after)
    · exact .of_next (h.line rfl rfl rfl rfl (.inl rfl))
  | dominantCount after =>
    have hmid : ModesKept { s.elapse after with lin.idle := .counting (s.now + after) } := h.line rfl rfl rfl rfl (.inl rfl)
    show Completes _ (execDominantCount after s)
    unfold execDominantCount
    dsimp only
    split_ifs with hwaiting
    · obtain ⟨hnone, hnext⟩ := engine_waiting_iff.mp hwaiting
      obtain ⟨k, hk⟩ := Option.isSome_iff_exists.mp hnext
      have hspec := nextNotice_spec hk
      refine .of_next (modesKept_countRetry hmid hnone ?_)
      split_ifs at hspec with hr
      · exact .inl hr
      · exact .inr hspec.2
    · exact .of_next hmid
  | attemptStart after =>
    show Completes _ (execAttemptStart after s)
    unfold execAttemptStart
    dsimp only
    split_ifs
    · split
      · next k hk =>
        refine .of_next ⟨h.started, h.tested, h.joining, h.isolation, h.recovery, fun a ha => ?_, h.statusPeriod, h.hold⟩
        obtain rfl := Option.some.inj ha
        exact nextNotice_spec hk
      · exact .of_next (htime after)
    · exact .of_next (htime after)
  | arbitrationLost after =>
    show Completes _ (execArbitrationLost after s)
    unfold execArbitrationLost
    dsimp only
    split
    · split_ifs
      · exact .of_next (h.line rfl rfl rfl rfl (.inr rfl))
      · exact .of_next (htime after)
    · exact .of_next (htime after)
  | bitError after =>
    show Completes _ (execBitError after s)
    unfold execBitError
    dsimp only
    split
    · next a ha =>
      split_ifs
      · exact .of_next (modesKept_countRetry (h.line rfl rfl rfl rfl (.inr rfl)) rfl (h.not_starting_of_attempt ha))
      · exact .of_next (htime after)
    · exact .of_next (htime after)
  | attemptComplete =>
    show Completes _ (execAttemptComplete s)
    unfold execAttemptComplete
    split
    · next a ha =>
      by_cases hk : a.notice = .recovery
      · have hmode := h.isolated_of_recovery ha hk
        rw [hk]
        exact .of_next (modesKept_recoverySent (h.line rfl rfl rfl rfl (.inr rfl)) hmode rfl)
      · exact .of_next ((nodeKept_noticeSent hk _).modesKept (h.line rfl rfl rfl rfl (.inr rfl)))
    · exact .of_next h
  | frameAbandoned heard =>
    show Completes _ (execFrameAbandoned heard s)
    unfold execFrameAbandoned
    dsimp only
    split_ifs
    · exact .of_next (h.line rfl rfl rfl rfl (.inl rfl))
    · exact .of_next (htime _)
  | frameDiscarded after =>
    show Completes _ (execFrameDiscarded after s)
    unfold execFrameDiscarded
    dsimp only
    split_ifs
    · exact .of_next (htime after)
    · exact .of_next (h.line rfl rfl rfl rfl (.inl rfl))
  | recoveryAttempt =>
    exact completes_expiry h fun d hd => by
      have hmode : s.cfg.mode = .isolated := h.isolation.mp (.inl (by rw [hd]; rfl))
      refine ⟨h.started, h.tested, h.joining, ⟨fun _ => hmode, fun _ => .inr rfl⟩, fun hn => (nomatch hn), fun a ha => ?_,
        h.statusPeriod, h.hold⟩
      have hrec := h.recovery (by rw [hd]; rfl)
      have hopen := h.not_starting_of_attempt ha
      rw [hrec, hmode] at hopen
      simp [queueOpen] at hopen
  | joiningTimerExpiry =>
    exact completes_expiry h fun d hd => by
      have hmode : s.cfg.mode = .joining := h.joining.mp (by rw [hd]; rfl)
      have hstarted := h.started (by rw [hmode]; exact NodeMode.noConfusion)
      have hto : (if s.cfg.failed then NodeMode.monitorOnly else .run) = .monitorOnly ∨
          (if s.cfg.failed then NodeMode.monitorOnly else .run) = .run := by
        split_ifs
        · exact .inl rfl
        · exact .inr rfl
      generalize (if s.cfg.failed then NodeMode.monitorOnly else .run) = m at hto
      refine ⟨fun _ => hstarted, h.tested, ?_, ?_, h.recovery, fun a ha => ?_, ?_, h.hold⟩
      · obtain rfl | rfl := hto <;> simp
      · have hi := h.isolation
        rw [hmode] at hi
        obtain rfl | rfl := hto <;> simpa using hi
      · have hs := h.sending a ha
        rw [hmode] at hs
        obtain rfl | rfl := hto <;> exact hs
      · have hp := h.statusPeriod
        rw [hmode] at hp
        obtain rfl | rfl := hto <;> exact hp
  | statusPeriodExpiry =>
    exact completes_expiry h fun d hd => by
      rw [requestStatus_eq]
      exact h.line rfl (by simp [hd]) rfl rfl (.inl rfl)
  | holdTimerExpiry =>
    exact completes_expiry h fun d hd => by
      rw [requestStatus_eq]
      exact ⟨h.started, h.tested, h.joining, h.isolation, h.recovery, h.sending, h.statusPeriod, by simp⟩
  | _ =>
    exact (exec_nodeKept rfl s).imp fun t hk => hk.modesKept h

/-- Settles O6: every command keeps the modes, and the waiting commands play no part in them. -/
theorem modesStayKept : Obligations.ModesStayKept := fun _ _ h ht =>
  step_of_exec h (fun c _ _ => exec_modesKept c (h.line rfl rfl rfl rfl (.inl rfl))) ht

end Sys2Proof.Machine
end

section
/-! SUPPORT. The peer table: what a notice heard can tell a record, how a record is written, which commands leave the
table alone, and that every command keeps it. -/

namespace Sys2Proof.Machine

open Sys2Proof

variable {s t u : State} {nSite own period : Nat}

/-! ### Notices within their fields -/

/-- A notice as the bytes of a frame can give it: a source of the site, two-byte shares (R78, R201). -/
def Notice.FromSite (nSite : Nat) : Notice → Prop
  | .directive _ _ _ => True
  | .release source _ _ _ => 1 ≤ source ∧ source ≤ nSite
  | .claim source _ _ _ share => 1 ≤ source ∧ source ≤ nSite ∧ share ≤ 65535
  | .report source _ => 1 ≤ source ∧ source ≤ nSite
  | .status source b => 1 ≤ source ∧ source ≤ nSite ∧ ∀ p, b.eqPart = some p → p.share ≤ 65535

theorem word16_le (hi lo : Byte) : word16 hi lo ≤ 65535 := by
  have h := hi.isLt
  have l := lo.isLt
  unfold word16
  omega

theorem readEqPart_share {present : Bool} {bytes rest : List Byte} {p : EqPart}
    (h : readEqPart present bytes = some (some p, rest)) : p.share ≤ 65535 := by
  unfold readEqPart at h
  split at h
  · split at h
    · cases h
      exact word16_le _ _
    · cases h
  · cases h

theorem readStatusBody_share {bytes : List Byte} {b : StatusBody} (h : readStatusBody bytes = some b) {p : EqPart}
    (hp : b.eqPart = some p) : p.share ≤ 65535 := by
  unfold readStatusBody at h
  split at h
  · split at h
    · cases h
    · next heq =>
      split at h
      · cases h
        cases hp
        exact readEqPart_share heq
      · cases h
  · cases h

theorem readNotice_fromSite {f : RawFrame} {n : Notice} (h : readNotice nSite f = some n) : n.FromSite nSite := by
  unfold readNotice at h
  simp only [Bool.and_eq_true, decide_eq_true_eq] at h
  split at h
  · split at h
    · split_ifs at h
      cases h
      trivial
    · cases h
  · split at h
    · split_ifs at h with hs
      cases h
      exact hs.1
    · cases h
  · split at h
    · split_ifs at h with hs
      cases h
      exact ⟨hs.1.1, hs.1.2, word16_le _ _⟩
    · cases h
  · split_ifs at h with hs
    cases h
    exact hs.1
  · split_ifs at h with hs
    obtain ⟨b, hb, rfl⟩ := Option.map_eq_some_iff.mp h
    exact ⟨hs.1.1, hs.1.2, fun p hp => readStatusBody_share hb hp⟩
  · cases h

theorem decodeNotice_fromSite {bytes : List Byte} {n : Notice} (h : decodeNotice nSite bytes = some n) :
    n.FromSite nSite := by
  obtain ⟨f, -, hf⟩ := Option.bind_eq_some_iff.mp h
  exact readNotice_fromSite hf

/-! ### Records -/

theorem renewedPeer_kept {ptb : List PeerRecord} {a : Nat} (h : ∀ p ∈ ptb, p.Kept nSite own period)
    (ha : 1 ≤ a ∧ a ≤ nSite ∧ a ≠ own) : (renewedPeer ptb a).Kept nSite own period := by
  cases hf : findPeer ptb a with
  | none =>
    rw [(renewedPeer_spec ptb a).created hf]
    exact ⟨ha, Nat.zero_le _, fun c hc => (nomatch hc), fun c hc => (nomatch hc)⟩
  | some q =>
    rw [(renewedPeer_spec ptb a).held q hf]
    obtain ⟨haddress, -, heq, hwater⟩ := h q (List.mem_of_find?_eq_some hf)
    exact ⟨haddress, Nat.zero_le _, heq, hwater⟩

theorem tag_bounds {tag : Byte} (h : tag ≠ 0#8) : 1 ≤ tag.toNat ∧ tag.toNat ≤ 255 := by
  have hlt := tag.isLt
  have hne : tag.toNat ≠ 0 := fun hz => h (BitVec.eq_of_toNat_eq hz)
  omega

theorem readEqClaim_kept {p : EqPart} {c : EqClaim} (hshare : p.share ≤ 65535) (h : readEqClaim p = some c) :
    1 ≤ c.tag ∧ c.tag ≤ 255 ∧ c.share ≤ 65535 ∧ c.snapshot ≤ 1000 := by
  unfold readEqClaim at h
  split_ifs at h with hok
  obtain ⟨htag, hsnapshot⟩ := not_or.mp hok
  obtain ⟨ph, -, rfl⟩ := Option.map_eq_some_iff.mp h
  exact ⟨(tag_bounds htag).1, (tag_bounds htag).2, hshare, Nat.not_lt.mp hsnapshot⟩

theorem readWaterClaim_kept {p : WaterPart} {c : WaterClaim} (h : readWaterClaim p = some c) :
    1 ≤ c.tag ∧ c.tag ≤ 255 ∧ c.snapshot ≤ 1000 := by
  unfold readWaterClaim at h
  split_ifs at h with hok
  obtain ⟨htag, hsnapshot⟩ := not_or.mp hok
  obtain ⟨ph, -, rfl⟩ := Option.map_eq_some_iff.mp h
  exact ⟨(tag_bounds htag).1, (tag_bounds htag).2, Nat.not_lt.mp hsnapshot⟩

theorem readPart_some {α β : Type} {read : α → Option β} {part : Option α} {c : β}
    (h : readPart read part = some (some c)) : ∃ p, part = some p ∧ read p = some c := by
  cases part with
  | none => cases h
  | some p =>
    obtain ⟨c', hc, heq⟩ := Option.map_eq_some_iff.mp h
    cases heq
    exact ⟨p, rfl, hc⟩

theorem applyStatus_kept {b : StatusBody} {p q : PeerRecord} (hp : p.Kept nSite own period)
    (hb : ∀ e, b.eqPart = some e → e.share ≤ 65535) (h : applyStatus b p = some q) : q.Kept nSite own period := by
  unfold applyStatus at h
  split at h
  · next mode eqClaim waterClaim _ heq hwater =>
    split_ifs at h
    cases h
    refine ⟨hp.address, hp.age, fun c hc => ?_, fun c hc => ?_⟩
    · cases hc
      obtain ⟨e, he, hread⟩ := readPart_some heq
      exact readEqClaim_kept (hb e he) hread
    · cases hc
      obtain ⟨e, -, hread⟩ := readPart_some hwater
      exact readWaterClaim_kept hread
  · cases h

theorem applyClaim_kept {resource tag : Byte} {snapshot share : Nat} {p q : PeerRecord} (hp : p.Kept nSite own period)
    (hshare : share ≤ 65535) (h : applyClaim resource tag snapshot share p = some q) : q.Kept nSite own period := by
  unfold applyClaim at h
  by_cases hok : tag = 0#8 ∨ 1000 < snapshot
  · rw [if_pos hok] at h
    cases h
  rw [if_neg hok] at h
  obtain ⟨htag, hsnapshot⟩ := not_or.mp hok
  obtain ⟨hlow, hhigh⟩ := tag_bounds htag
  split at h
  · split_ifs at h
    · cases h
      exact hp
    · cases h
      exact ⟨hp.address, hp.age, fun c hc => by cases hc; exact ⟨hlow, hhigh, hshare, Nat.not_lt.mp hsnapshot⟩,
        hp.waterClaim⟩
  · split_ifs at h
    · cases h
      exact hp
    · cases h
      exact ⟨hp.address, hp.age, hp.eqClaim, fun c hc => by cases hc; exact ⟨hlow, hhigh, Nat.not_lt.mp hsnapshot⟩⟩
  · cases h

theorem applyRelease_kept {resource tag reason : Byte} {p q : PeerRecord} (hp : p.Kept nSite own period)
    (h : applyRelease resource tag reason p = some q) : q.Kept nSite own period := by
  unfold applyRelease at h
  by_cases hok : tag = 0#8 ∨ reasonOf reason = none
  · rw [if_pos hok] at h
    cases h
  rw [if_neg hok] at h
  split at h
  · cases h
    split_ifs
    · exact ⟨hp.address, hp.age, fun c hc => (nomatch hc), hp.waterClaim⟩
    · exact hp
  · cases h
    split_ifs
    · exact ⟨hp.address, hp.age, hp.eqClaim, fun c hc => (nomatch hc)⟩
    · exact hp
  · cases h

/-- What a notice from another station of the site tells is a record as the table may hold it (R96, R97). -/
theorem Tells.kept {ptb : List PeerRecord} {n : Notice} {q : PeerRecord} (h : Tells ptb n q) (hn : n.FromSite nSite)
    (hown : n.source ≠ own) (hk : ∀ p ∈ ptb, p.Kept nSite own period) : q.Kept nSite own period := by
  cases h with
  | status happly => exact applyStatus_kept (renewedPeer_kept hk ⟨hn.1, hn.2.1, hown⟩) hn.2.2 happly
  | claim happly => exact applyClaim_kept (renewedPeer_kept hk ⟨hn.1, hn.2.1, hown⟩) hn.2.2 happly
  | release happly => exact applyRelease_kept (renewedPeer_kept hk ⟨hn.1, hn.2, hown⟩) happly
  | report => exact renewedPeer_kept hk ⟨hn.1, hn.2, hown⟩

/-! ### The table -/

theorem mem_putPeer {p q : PeerRecord} {l : List PeerRecord} (h : q ∈ putPeer p l) : q = p ∨ q ∈ l := by
  induction l with
  | nil => exact .inl (List.mem_singleton.mp h)
  | cons r rest ih =>
    unfold putPeer at h
    split_ifs at h
    · exact List.mem_cons.mp h
    · obtain rfl | h := List.mem_cons.mp h
      · exact .inl rfl
      · exact .inr (List.mem_cons_of_mem _ h)
    · obtain rfl | h := List.mem_cons.mp h
      · exact .inr List.mem_cons_self
      · exact (ih h).imp_right (List.mem_cons_of_mem _)

theorem putPeer_rising {p : PeerRecord} {l : List PeerRecord} (h : l.Pairwise fun p q => p.address < q.address) :
    (putPeer p l).Pairwise fun p q => p.address < q.address := by
  induction l with
  | nil => exact List.pairwise_singleton _ _
  | cons r rest ih =>
    obtain ⟨hr, hrest⟩ := List.pairwise_cons.mp h
    unfold putPeer
    split_ifs with hlt heq
    · refine List.pairwise_cons.mpr ⟨fun q hq => ?_, h⟩
      obtain rfl | hq := List.mem_cons.mp hq
      · exact hlt
      · exact hlt.trans (hr q hq)
    · exact List.pairwise_cons.mpr ⟨fun q hq => heq ▸ hr q hq, hrest⟩
    · refine List.pairwise_cons.mpr ⟨fun q hq => ?_, ih hrest⟩
      obtain rfl | hq := mem_putPeer hq
      · omega
      · exact hr q hq

theorem agePeers_rising {l : List PeerRecord} (h : l.Pairwise fun p q => p.address < q.address) :
    (agePeers period l).Pairwise fun p q => p.address < q.address :=
  List.pairwise_map.mpr (h.filter _)

theorem agePeers_kept {l : List PeerRecord} (h : ∀ p ∈ l, p.Kept nSite own period) :
    ∀ p ∈ agePeers period l, p.Kept nSite own period := by
  intro p hp
  obtain ⟨q, hq, rfl⟩ := List.mem_map.mp hp
  obtain ⟨hmem, hage⟩ := List.mem_filter.mp hq
  obtain ⟨haddress, -, heq, hwater⟩ := h q hmem
  exact ⟨haddress, of_decide_eq_true hage, heq, hwater⟩

/-! ### The commands of the line and of start-up -/

/-- `t` differs from `s` in nothing that the claims, the round and the peer table hold, and stands in the same mode. -/
structure LineFrame (s t : State) : Prop where
  clm : t.clm = s.clm
  rnd : t.rnd = s.rnd
  wat : t.wat = s.wat
  ptb : t.ptb = s.ptb
  pwmDuty : t.fld.pwmDuty = s.fld.pwmDuty
  mode : t.cfg.mode = s.cfg.mode

/-- What a command of the own line or of start-up does: its own fields, then one failure more, the notice sent, or the
end of start-up. -/
inductive LineStep (s : State) : State → Prop
  | own {v : State} : LineFrame s v → LineStep s v
  | failed {v : State} : LineFrame s v → LineStep s (countRetry v)
  | sent {v : State} {a : Attempt} :
      LineFrame s v → s.lin.attempt = some a → LineStep s (noticeSent a.notice v)
  | startUp {v : State} : LineFrame s v → LineStep s (checkStartUp v)

/-- The commands of the own line and of start-up. -/
def onLine : Instr → Bool
  | .strapsSettled _ _ | .configurationRead _ | .selfTest _ | .lineBreak _ | .framingError _ | .lineIdle _
  | .dominantCount _ | .attemptStart _ | .arbitrationLost _ | .bitError _ | .attemptComplete | .frameAbandoned _
  | .frameDiscarded _ | .recoveryAttempt => true
  | _ => false

theorem exec_lineStep {c : Instr} (hc : onLine c = true) (s : State) : Completes (LineStep s) (exec c s) := by
  have hself : LineStep s s := .own (by constructor <;> rfl)
  have htime (after : Nat) : LineStep s (s.elapse after) := .own (by constructor <;> rfl)
  cases c with
  | strapsSettled after straps =>
    show Completes _ (execStrapsSettled after straps s)
    unfold execStrapsSettled
    dsimp only
    split
    · split_ifs
      · exact .of_next (htime after)
      · exact .of_next (.startUp (by constructor <;> rfl))
    · exact .of_next (htime after)
  | configurationRead record =>
    show Completes _ (execConfigurationRead record s)
    unfold execConfigurationRead
    split_ifs
    · exact .of_next hself
    · exact .of_next (.own (by constructor <;> rfl))
    · exact .of_next (.own (by constructor <;> rfl))
  | selfTest looped =>
    show Completes _ (execSelfTest looped s)
    unfold execSelfTest
    split
    · exact .of_next (.startUp (by constructor <;> rfl))
    all_goals exact .of_next hself
  | lineBreak after | framingError after => exact .of_next (.own (by constructor <;> rfl))
  | lineIdle after =>
    show Completes _ (execLineIdle after s)
    unfold execLineIdle
    dsimp only
    split_ifs
    · exact .of_next (htime after)
    · exact .of_next (.own (by constructor <;> rfl))
  | dominantCount after =>
    show Completes _ (execDominantCount after s)
    unfold execDominantCount
    dsimp only
    split_ifs
    · exact .of_next (.failed (by constructor <;> rfl))
    · exact .of_next (.own (by constructor <;> rfl))
  | attemptStart after =>
    show Completes _ (execAttemptStart after s)
    unfold execAttemptStart
    dsimp only
    split_ifs
    · split
      · exact .of_next (.own (by constructor <;> rfl))
      · exact .of_next (htime after)
    · exact .of_next (htime after)
  | arbitrationLost after =>
    show Completes _ (execArbitrationLost after s)
    unfold execArbitrationLost
    dsimp only
    split
    · split_ifs
      · exact .of_next (.own (by constructor <;> rfl))
      · exact .of_next (htime after)
    · exact .of_next (htime after)
  | bitError after =>
    show Completes _ (execBitError after s)
    unfold execBitError
    dsimp only
    split
    · split_ifs
      · exact .of_next (.failed (by constructor <;> rfl))
      · exact .of_next (htime after)
    · exact .of_next (htime after)
  | attemptComplete =>
    show Completes _ (execAttemptComplete s)
    unfold execAttemptComplete
    split
    · next a ha => exact .of_next (.sent (by constructor <;> rfl) ha)
    · exact .of_next hself
  | frameAbandoned heard =>
    show Completes _ (execFrameAbandoned heard s)
    unfold execFrameAbandoned
    dsimp only
    split_ifs
    · exact .of_next (.own (by constructor <;> rfl))
    · exact .of_next (htime _)
  | frameDiscarded after =>
    show Completes _ (execFrameDiscarded after s)
    unfold execFrameDiscarded
    dsimp only
    split_ifs
    · exact .of_next (htime after)
    · exact .of_next (.own (by constructor <;> rfl))
  | recoveryAttempt => exact completes_expiry hself fun _ _ => .own (by constructor <;> rfl)
  | _ => cases hc

/-! ### Commands that leave the table alone -/

/-- The same peer table, and STARTING not entered. -/
structure TableKept (s t : State) : Prop where
  ptb : t.ptb = s.ptb
  mode : t.cfg.mode = .starting → s.cfg.mode = .starting

theorem TableKept.of_mode (hptb : t.ptb = s.ptb) (hmode : t.cfg.mode = s.cfg.mode) : TableKept s t := ⟨hptb, hmode.symm.trans⟩

theorem NodeKept.tableKept (h : NodeKept s t) : TableKept s t := .of_mode h.ptb (by rw [h.cfg])

theorem PanelFrame.tableKept (h : PanelFrame s t) : TableKept s t := .of_mode h.ptb (by rw [h.cfg])

theorem TableKept.after (k : TableKept t u) (h : TableKept s t) : TableKept s u :=
  ⟨k.ptb.trans h.ptb, fun hm => h.mode (k.mode hm)⟩

theorem tableKept_leaveLine {mode : NodeMode} (hmode : mode ≠ .starting) (cause : AbortCause) (s : State) :
    TableKept s (leaveLine mode cause s) :=
  (frame_leaveLine mode cause s).nodeKept.tableKept.after ⟨rfl, fun h => absurd h hmode⟩

theorem tableKept_countRetry (s : State) : TableKept s (countRetry s) := by
  obtain ⟨-, h⟩ | ⟨-, -, h⟩ | ⟨-, -, h⟩ := countRetry_cases s
  · rw [h]
    exact .of_mode rfl rfl
  · rw [h]
    exact tableKept_leaveLine NodeMode.noConfusion _ s
  · rw [h]
    exact .of_mode rfl rfl

theorem tableKept_checkStartUp (s : State) : TableKept s (checkStartUp s) := by
  unfold checkStartUp leaveStarting
  dsimp only
  split_ifs with hend
  · exact ⟨rfl, fun _ => hend.1⟩
  · exact ⟨rfl, fun _ => hend.1⟩
  · exact ⟨rfl, fun _ => hend.1⟩
  · exact .of_mode rfl rfl

theorem tableKept_noticeSent (k : NoticeKey) (s : State) : TableKept s (noticeSent k s) := by
  by_cases hk : k = .recovery
  · subst hk
    exact ⟨rfl, fun h => nomatch h⟩
  · exact (nodeKept_noticeSent hk s).tableKept

theorem LineStep.tableKept (h : LineStep s t) : TableKept s t := by
  cases h with
  | own h => exact .of_mode h.ptb h.mode
  | failed h => exact (tableKept_countRetry _).after (.of_mode h.ptb h.mode)
  | sent h => exact (tableKept_noticeSent _ _).after (.of_mode h.ptb h.mode)
  | startUp h => exact (tableKept_checkStartUp _).after (.of_mode h.ptb h.mode)

/-- The commands that write the table: RESET, the one-second expiry and the frames. -/
def writesTable : Instr → Bool
  | .reset | .scanStart | .statusNotice _ _ | .claimNotice _ _ | .releaseNotice _ _ | .reportNotice _ _ | .hold _ _
  | .stop _ _ | .forceEq _ _ | .forceWater _ _ | .clear _ _ | .query _ _ => true
  | _ => false

theorem exec_tableKept {c : Instr} (hc : writesTable c = false) (s : State) : Completes (TableKept s) (exec c s) := by
  have hsame : TableKept s s := .of_mode rfl rfl
  cases c with
  | reset | scanStart | statusNotice | claimNotice | releaseNotice | reportNotice | hold | stop | forceEq | forceWater
  | clear | query => cases hc
  | joiningTimerExpiry =>
    refine completes_expiry hsame fun _ _ => ⟨rfl, fun h => ?_⟩
    exact absurd (show (if s.cfg.failed then NodeMode.monitorOnly else .run) = .starting from h) (by split_ifs <;> simp)
  | statusPeriodExpiry | holdTimerExpiry =>
    exact completes_expiry hsame fun _ _ => by
      rw [requestStatus_eq]
      exact .of_mode rfl rfl
  | strapsSettled | configurationRead | selfTest | lineBreak | framingError | lineIdle | dominantCount | attemptStart
  | arbitrationLost | bitError | attemptComplete | frameAbandoned | frameDiscarded | recoveryAttempt =>
    exact (exec_lineStep rfl s).imp fun t h => h.tableKept
  | _ => exact (exec_nodeKept rfl s).imp fun t h => h.tableKept

/-! ### Every command -/

/-- In STARTING the table is empty; after it the address and the configuration stand (R111, R191). -/
theorem TableKept.peersKept (k : TableKept s t) (hp : Proceeds s t) (hm : ModesKept s) (h : PeersKept s) : PeersKept t := by
  by_cases hs : s.cfg.mode = .starting
  · have hnone : t.ptb = [] := k.ptb.trans (h.starting hs)
    exact ⟨by rw [hnone]; exact .nil, by rw [hnone]; exact fun p hp => (nomatch hp), fun _ => hnone⟩
  · obtain ⟨hread, haddress⟩ := hm.started hs
    obtain ⟨a, ha⟩ := Option.isSome_iff_exists.mp haddress
    have hsite : t.cfg.config = s.cfg.config := (hp.read hread).2.1
    have hown : t.address = s.address := by
      unfold State.address
      rw [ha, hp.address a ha]
    exact ⟨k.ptb ▸ h.rising, by rw [k.ptb, hsite, hown]; exact h.kept, fun ht => absurd (k.mode ht) hs⟩

theorem PeersKept.withRecord (h : PeersKept s) {q : PeerRecord} (hs : s.cfg.mode ≠ .starting)
    (hq : q.Kept s.cfg.config.nSite s.address s.cfg.config.period) : PeersKept (s.withRecord q) :=
  ⟨putPeer_rising h.rising, fun p hp => (mem_putPeer hp).elim (fun he => he ▸ hq) (h.kept p), fun ht => absurd ht hs⟩

/-- The same table, configuration, address and mode. -/
theorem PeersKept.congr (h : PeersKept s) (hptb : t.ptb = s.ptb) (hconfig : t.cfg.config = s.cfg.config)
    (haddress : t.cfg.address = s.cfg.address) (hmode : t.cfg.mode = .starting → s.cfg.mode = .starting) : PeersKept t := by
  have hown : t.address = s.address := by unfold State.address; rw [haddress]
  exact ⟨hptb ▸ h.rising, by rw [hptb, hconfig, hown]; exact h.kept, fun ht => hptb.trans (h.starting (hmode ht))⟩

theorem peersKept_hearFrame {c : Instr} {after : Nat} {frame : List Byte} (hc : FrameCommand c after frame)
    (h : PeersKept s) : PeersKept (hearFrame frame (frameReader c) s) := by
  have hends : PeersKept (frameEnds s) := h.congr rfl rfl rfl id
  refine hearFrame_induction frame _ h (h.congr rfl rfl rfl id) hends (fun _ => ?_) fun n hmode hn hown => ?_
  · have hf : RoundFrame ((frameEnds s).offLine .silent) (addressClash (frameEnds s)) := frame_leaveLine _ _ _
    exact hends.congr hf.ptb (by rw [hf.cfg]; rfl) (by rw [hf.cfg]; rfl) (fun ht => by rw [hf.cfg] at ht; cases ht)
  · obtain hp | heq | ⟨q, htells, hf⟩ := frameReader_cases hc n (frameEnds s)
    · exact hends.congr hp.ptb (by rw [hp.cfg]) (by rw [hp.cfg]) (by rw [hp.cfg]; exact id)
    · rw [heq]
      exact hends
    · have hq := htells.kept (decodeNotice_fromSite hn) hown h.kept
      exact (hends.withRecord hmode hq).congr hf.ptb (by rw [hf.cfg]) (by rw [hf.cfg]) (by rw [hf.cfg]; exact id)

theorem exec_peersKept (c : Instr) (hm : ModesKept s) (h : PeersKept s) : Completes PeersKept (exec c s) := by
  cases hc : writesTable c with
  | false =>
    obtain ⟨t, ht, hk⟩ := exec_tableKept hc s
    have hp := (exec_proceeds (fun hr => by rw [hr] at hc; cases hc) s).elim ht
    exact ⟨t, ht, hk.peersKept hp hm h⟩
  | true =>
    cases c with
    | reset => exact .of_next ⟨.nil, fun p hp => (nomatch hp), fun _ => rfl⟩
    | scanStart =>
      refine .of_next ⟨agePeers_rising h.rising, agePeers_kept h.kept, fun hs => ?_⟩
      show agePeers _ s.ptb = []
      rw [h.starting hs]
      rfl
    | statusNotice after frame | claimNotice after frame | releaseNotice after frame | reportNotice after frame
    | hold after frame | stop after frame | forceEq after frame | forceWater after frame | clear after frame
    | query after frame =>
      exact completes_frameCommand (after := after) (frame := frame) (by simp [FrameCommand]) fun hf =>
        peersKept_hearFrame hf (h.congr rfl rfl rfl id)
    | _ => cases hc

/-- Settles O8: every command keeps the table, and the waiting commands play no part in it. -/
theorem peersStayKept : Obligations.PeersStayKept := fun _ _ hm h ht =>
  step_of_exec h
    (fun c _ _ => exec_peersKept c (hm.line rfl rfl rfl rfl (.inl rfl)) (h.congr rfl rfl rfl id)) ht

end Sys2Proof.Machine
end

section
/-! SUPPORT. A coherent round, state by state: which timers run, where the relay and the limiter stand, which record is
open, and what the claims may be. -/

namespace Sys2Proof.Machine

open Sys2Proof

variable {s t u : State}

/-! ### The parts of a coherent round -/

/-- Which of the round's timers run. -/
structure TimersRun (r : Rnd) (charger transfer recovery current rest : Bool) : Prop where
  charger : r.chargerWait.isSome = charger
  transfer : r.transferFrom.isSome = transfer
  recovery : r.recoveryCheck.isSome = recovery
  current : r.currentWait.isSome = current
  rest : r.restPeriod.isSome = rest

/-- The duty is 0, and the limiter is off in the period under way. -/
def LimiterOff (s : State) : Prop := s.rnd.duty = 0 ∧ s.fld.pwmDuty = 0

/-- No pulse, no plan and no timer of a watering round. -/
structure DosesIdle (w : Wat) : Prop where
  plan : w.plan = []
  valve : w.valve = none
  openPeriod : w.openPeriod = none
  flowWindow : w.flowWindow = none
  earlyLimit : w.earlyLimit = none
  offTime : w.offTime = none
  roundLimit : w.roundLimit = none
  closedPeriod : w.closedPeriod = false

/-- The pulses of a watering round: the open valve is the head group's, and the open period runs with it. -/
structure DosesRun (w : Wat) : Prop where
  head : ∀ g, w.valve = some g → w.plan.head? = some g
  pulse : w.openPeriod.isSome = w.valve.isSome
  closed : w.closedPeriod = true → w.valve = none

/-- An open record of a kind, its outcome fixed or not. -/
def RecordOpen (kind : RoundKind) (fixed : Bool) (s : State) : Prop :=
  ∃ r, s.rnd.record = some r ∧ r.kind = kind ∧ r.outcome.isSome = fixed

/-- No round is under way: the string stands on float. -/
structure OnFloat (s : State) (resting : Bool) : Prop where
  relay : s.rnd.relay = .float
  limiter : LimiterOff s
  demand : s.rnd.demand = false
  timers : TimersRun s.rnd false false false false resting
  record : s.rnd.record = none
  doses : DosesIdle s.wat

/-- An equalising round is under way, its outcome fixed or not. -/
structure Equalising (s : State) (fixed : Bool) : Prop where
  demand : s.rnd.demand = true
  record : RecordOpen .equalise fixed s
  doses : DosesIdle s.wat

/-- The round itself in the state `x`: all that `Coherent` says of it but the claims. -/
def RoundFits (s : State) : RoundState → Prop
  | .float | .due | .claiming | .waterDue | .waterClaiming => OnFloat s false
  | .inhibited => OnFloat s false ∧ s.rnd.inhibit = true
  | .rest => OnFloat s true
  | .prepare => Equalising s false ∧ LimiterOff s ∧ s.rnd.relay = .float ∧ TimersRun s.rnd true false false false false
  | .transferOut => Equalising s false ∧ LimiterOff s ∧ TimersRun s.rnd false true false false false
  | .equalising | .soak =>
      Equalising s false ∧ (s.fld.pwmDuty ≠ 0 → s.rnd.duty ≠ 0) ∧ TimersRun s.rnd false false false false false
  | .transferBack =>
      Equalising s true ∧ LimiterOff s ∧
        (TimersRun s.rnd false false false true false ∨
          (s.rnd.relay = .float ∧
            (TimersRun s.rnd false true false false false ∨ TimersRun s.rnd false false true false false)))
  | .stuck =>
      Equalising s true ∧ LimiterOff s ∧ s.rnd.relay = .float ∧ TimersRun s.rnd false false false false false ∧
        s.rnd.inhibit = true
  | .watering =>
      s.rnd.relay = .float ∧ LimiterOff s ∧ s.rnd.demand = false ∧ TimersRun s.rnd false false false false false ∧
        RecordOpen .watering false s ∧ DosesRun s.wat

/-- A claim machine whose window runs while it contends, and which yields only while it holds. -/
structure ClaimMachine.Sound (m : ClaimMachine) : Prop where
  window : m.windowTimer.isSome = true ↔ m.state = .contending
  yielding : m.yielding = true → m.state = .held

/-- The states of the claims against the round state, the mode and the current wait. -/
structure ClaimsFit (eq water : ClaimState) (round : RoundState) (mode : NodeMode) (waiting : Bool) : Prop where
  eqPending : claimPending eq ↔ round = .claiming
  waterPending : claimPending water ↔ round = .waterClaiming
  eqHeld : eq = .held → inEqualise round = true
  working : workingEqualise round = true → eq = .held
  waterHeld : water = .held ↔ round = .watering
  onlyInRun : claimPending eq ∨ eq = .held ∨ claimPending water ∨ water = .held ∨ round = .due ∨ round = .waterDue →
    mode = .run
  waiting : waiting = true → eq = .held

/-- The claims of `s` fit its round. -/
def ClaimsKept (s : State) : Prop :=
  ClaimsFit s.clm.eq.state s.clm.water.state s.rnd.round s.cfg.mode s.rnd.currentWait.isSome

/-! ### Coherent, state by state -/

theorem RelayPosition.eq_float {r : RelayPosition} (h : r ≠ .equalise) : r = .float := by
  cases r with
  | float => rfl
  | equalise => exact absurd rfl h

theorem Coherent.dosesIdle (h : Coherent s) (hw : s.rnd.round ≠ .watering) : DosesIdle s.wat := by
  have hvalve : s.wat.valve = none := by
    cases hv : s.wat.valve with
    | none => rfl
    | some g => exact absurd (h.valve g hv).1 hw
  have hopen := h.pulse
  have htimers := mt h.wateringTimers hw
  simp only [hvalve, Option.isSome_none, Bool.false_eq_true, iff_false, Bool.not_eq_true, Option.isSome_eq_false_iff,
    Option.isNone_iff_eq_none, not_or, ne_eq, not_not] at hopen htimers
  obtain ⟨hflow, hearly, hoff, hlimit, hclosed, hplan⟩ := htimers
  exact ⟨hplan, hvalve, hopen, hflow, hearly, hoff, hlimit, hclosed⟩

/-- The timers that the round state says run. -/
theorem Coherent.timersRun (h : Coherent s) (hb : s.rnd.round ≠ .transferBack) :
    TimersRun s.rnd (decide (s.rnd.round = .prepare)) (decide (s.rnd.round = .transferOut)) false false
      (decide (s.rnd.round = .rest)) where
  charger := by rw [Bool.eq_iff_iff, h.chargerWait, decide_eq_true_iff]
  transfer := by
    rw [Bool.eq_iff_iff, decide_eq_true_iff]
    exact ⟨fun hf => (h.transferFrom hf).resolve_right hb, h.transferOut⟩
  recovery := Bool.eq_false_iff.mpr fun hc => hb (h.recoveryCheck hc)
  current := Bool.eq_false_iff.mpr fun hc => hb (h.currentWait hc).1
  rest := by rw [Bool.eq_iff_iff, h.rest, decide_eq_true_iff]

theorem Coherent.limiterOff (h : Coherent s) (he : s.rnd.round ≠ .equalising) (hs : s.rnd.round ≠ .soak) :
    LimiterOff s := by
  have hduty : s.rnd.duty = 0 := by
    by_contra hd
    exact (h.duty hd).elim he hs
  refine ⟨hduty, ?_⟩
  by_contra hl
  exact h.limiter hl hduty

theorem Coherent.relay_float (h : Coherent s) (ho : s.rnd.round ≠ .transferOut) (he : s.rnd.round ≠ .equalising)
    (hs : s.rnd.round ≠ .soak) (hw : s.rnd.currentWait.isSome = false) : s.rnd.relay = .float :=
  RelayPosition.eq_float fun hr => by
    obtain hc | hc | hc | hc := h.relay hr
    · exact ho hc
    · exact he hc
    · exact hs hc
    · exact Bool.noConfusion (hw.symm.trans hc)

theorem Coherent.onFloat (h : Coherent s) {x : RoundState} (hx : s.rnd.round = x) (hout : inEqualise x = false)
    (hw : x ≠ .watering) : OnFloat s (decide (x = .rest)) := by
  subst hx
  have hne (y : RoundState) (hy : inEqualise y = true) : s.rnd.round ≠ y := fun he => by
    rw [he, hy] at hout
    cases hout
  have ht := h.timersRun (hne _ rfl)
  rw [decide_eq_false (hne .prepare rfl), decide_eq_false (hne .transferOut rfl)] at ht
  refine ⟨h.relay_float (hne _ rfl) (hne _ rfl) (hne _ rfl) ht.current, h.limiterOff (hne _ rfl) (hne _ rfl), ?_, ht,
    h.noRecord hout hw, h.dosesIdle hw⟩
  rw [Bool.eq_false_iff]
  intro hd
  exact Bool.noConfusion (hout.symm.trans (h.demand.mp hd))

theorem Coherent.equalising (h : Coherent s) {fixed : Bool} (hin : inEqualise s.rnd.round = true)
    (hfixed : (s.rnd.record.bind OpenRecord.outcome).isSome = fixed) : Equalising s fixed := by
  refine ⟨h.demand.mpr hin, ?_, h.dosesIdle fun hw => by rw [hw] at hin; cases hin⟩
  obtain ⟨r, hr, hk⟩ := Option.map_eq_some_iff.mp (h.equaliseRecord hin)
  exact ⟨r, hr, hk, by rw [hr] at hfixed; exact hfixed⟩

theorem Coherent.working_open (h : Coherent s) (hw : workingEqualise s.rnd.round = true) :
    (s.rnd.record.bind OpenRecord.outcome).isSome = false := by
  rw [h.outcomeOpen (.inl hw)]
  rfl

/-- What `Coherent` says of the round itself, read off its state. -/
theorem Coherent.roundFits (h : Coherent s) : RoundFits s s.rnd.round := by
  cases hx : s.rnd.round with
  | float | due | claiming | waterDue | waterClaiming | rest => exact h.onFloat hx rfl RoundState.noConfusion
  | inhibited => exact ⟨h.onFloat hx rfl RoundState.noConfusion, h.latched (.inr hx)⟩
  | prepare =>
    have ht := h.timersRun (by simp [hx])
    simp only [hx, decide_true, reduceCtorEq, decide_false] at ht
    exact ⟨h.equalising (by rw [hx]; rfl) (h.working_open (by rw [hx]; rfl)),
      h.limiterOff (by simp [hx]) (by simp [hx]), h.relay_float (by simp [hx]) (by simp [hx]) (by simp [hx]) ht.current, ht⟩
  | transferOut =>
    have ht := h.timersRun (by simp [hx])
    simp only [hx, decide_true, reduceCtorEq, decide_false] at ht
    exact ⟨h.equalising (by rw [hx]; rfl) (h.working_open (by rw [hx]; rfl)),
      h.limiterOff (by simp [hx]) (by simp [hx]), ht⟩
  | equalising | soak =>
    have ht := h.timersRun (by simp [hx])
    simp only [hx, reduceCtorEq, decide_false] at ht
    exact ⟨h.equalising (by rw [hx]; rfl) (h.working_open (by rw [hx]; rfl)), h.limiter, ht⟩
  | transferBack =>
    refine ⟨h.equalising (by rw [hx]; rfl) (h.outcomeFixed (.inl hx)), h.limiterOff (by simp [hx]) (by simp [hx]), ?_⟩
    have hcharger : s.rnd.chargerWait.isSome = false := by rw [Bool.eq_false_iff, ne_eq, h.chargerWait, hx]; simp
    have hrest : s.rnd.restPeriod.isSome = false := by rw [Bool.eq_false_iff, ne_eq, h.rest, hx]; simp
    have hsum := h.goingBack hx
    have hrelay := h.relay_float (by simp [hx]) (by simp [hx]) (by simp [hx])
    cases hw : s.rnd.currentWait.isSome <;> cases hf : s.rnd.transferFrom.isSome <;>
      cases hc : s.rnd.recoveryCheck.isSome <;> simp only [hw, hf, hc] at hsum hrelay
    case false.true.false => exact .inr ⟨hrelay trivial, .inl ⟨hcharger, hf, hc, hw, hrest⟩⟩
    case false.false.true => exact .inr ⟨hrelay trivial, .inr ⟨hcharger, hf, hc, hw, hrest⟩⟩
    case true.false.false => exact .inl ⟨hcharger, hf, hc, hw, hrest⟩
    all_goals simp at hsum
  | stuck =>
    have ht := h.timersRun (by simp [hx])
    simp only [hx, reduceCtorEq, decide_false] at ht
    exact ⟨h.equalising (by rw [hx]; rfl) (h.outcomeFixed (.inr hx)), h.limiterOff (by simp [hx]) (by simp [hx]),
      h.relay_float (by simp [hx]) (by simp [hx]) (by simp [hx]) ht.current, ht, h.latched (.inl hx)⟩
  | watering =>
    have ht := h.timersRun (by simp [hx])
    simp only [hx, reduceCtorEq, decide_false] at ht
    refine ⟨h.relay_float (by simp [hx]) (by simp [hx]) (by simp [hx]) ht.current, h.limiterOff (by simp [hx]) (by simp [hx]),
      ?_, ht, ?_, ⟨fun g hg => (h.valve g hg).2, Bool.eq_iff_iff.mpr h.pulse, h.closed⟩⟩
    · rw [Bool.eq_false_iff, ne_eq, h.demand, hx]
      exact Bool.noConfusion
    · obtain ⟨r, hr, hk⟩ := Option.map_eq_some_iff.mp (h.wateringRecord hx)
      have hnone := h.outcomeOpen (.inr hx)
      rw [hr] at hnone
      exact ⟨r, hr, hk, by rw [show r.outcome = none from hnone]; rfl⟩

theorem Coherent.claimsKept (h : Coherent s) : ClaimsKept s :=
  ⟨h.eqPending, h.waterPending, h.eqHeld, h.working, h.waterHeld, h.onlyInRun, fun hw => (h.currentWait hw).2⟩

theorem Coherent.sound (h : Coherent s) : s.clm.eq.Sound ∧ s.clm.water.Sound :=
  ⟨⟨h.eqWindow, h.yielding.1⟩, ⟨h.waterWindow, h.yielding.2⟩⟩

theorem isSome_iff_of_eq {α : Type} {o : Option α} {b : Bool} {p : Prop} (h : o.isSome = b) (hb : b = true ↔ p) :
    o.isSome = true ↔ p := by rw [h, hb]

theorem inEqualise_of_working {x : RoundState} (h : workingEqualise x = true) : inEqualise x = true := by
  cases x <;> first | rfl | exact absurd h Bool.noConfusion

theorem isSome_elim {α : Type} {o : Option α} {p : Prop} (h : o.isSome = false) : o.isSome = true → p :=
  fun h' => Bool.noConfusion (h.symm.trans h')

theorem Coherent.of_onFloat (heq : s.clm.eq.Sound) (hwater : s.clm.water.Sound) (hclaims : ClaimsKept s)
    (hfloat : OnFloat s (decide (s.rnd.round = .rest))) (hout : inEqualise s.rnd.round = false)
    (hw : s.rnd.round ≠ .watering) (hlatched : s.rnd.round = .inhibited → s.rnd.inhibit = true) : Coherent s := by
  have hne (y : RoundState) (hy : inEqualise y = true) : s.rnd.round ≠ y := fun he => by
    rw [he, hy] at hout
    cases hout
  have hwork : workingEqualise s.rnd.round ≠ true := fun h => Bool.noConfusion (hout.symm.trans (inEqualise_of_working h))
  obtain ⟨hp, hwp, hh, hk, hwh, hrun, -⟩ := hclaims
  obtain ⟨hrelay, ⟨hduty, hpwm⟩, hdemand, ⟨hcw, htf, hrc, hcur, hrest⟩, hrecord, hdoses⟩ := hfloat
  exact
    { eqPending := hp, waterPending := hwp, eqHeld := hh, working := hk, waterHeld := hwh, onlyInRun := hrun
      eqWindow := heq.window, waterWindow := hwater.window, yielding := ⟨heq.yielding, hwater.yielding⟩
      relay := fun h => by rw [hrelay] at h; cases h
      currentWait := isSome_elim hcur
      duty := fun h => absurd hduty h
      limiter := fun h => absurd hpwm h
      demand := by rw [hdemand, hout]
      chargerWait := isSome_iff_of_eq hcw ⟨fun h => (nomatch h), fun h => absurd h (hne _ rfl)⟩
      transferOut := fun h => absurd h (hne _ rfl)
      transferFrom := isSome_elim htf
      recoveryCheck := isSome_elim hrc
      goingBack := fun h => absurd h (hne _ rfl)
      rest := isSome_iff_of_eq hrest decide_eq_true_iff
      latched := fun h => h.elim (fun h => absurd h (hne _ rfl)) hlatched
      equaliseRecord := fun h => by rw [hout] at h; cases h
      wateringRecord := fun h => absurd h hw
      noRecord := fun _ _ => hrecord
      outcomeFixed := fun h => h.elim (fun h => absurd h (hne _ rfl)) (fun h => absurd h (hne _ rfl))
      outcomeOpen := fun h => h.elim (fun h => absurd h hwork) (fun h => absurd h hw)
      valve := fun g h => by rw [hdoses.valve] at h; cases h
      pulse := by rw [hdoses.openPeriod, hdoses.valve]; rfl
      wateringTimers := fun h => by
        simp [hdoses.flowWindow, hdoses.earlyLimit, hdoses.offTime, hdoses.roundLimit, hdoses.closedPeriod, hdoses.plan] at h
      closed := fun _ => hdoses.valve }

theorem Coherent.of_equalising {transfer recovery current : Bool} (heq : s.clm.eq.Sound) (hwater : s.clm.water.Sound)
    (hclaims : ClaimsKept s) (hin : inEqualise s.rnd.round = true)
    (hround : Equalising s (!workingEqualise s.rnd.round))
    (htimers : TimersRun s.rnd (decide (s.rnd.round = .prepare)) transfer recovery current false)
    (hrelay : s.rnd.relay = .float ∨ s.rnd.round = .transferOut ∨ s.rnd.round = .equalising ∨ s.rnd.round = .soak ∨
      current = true)
    (hlimiter : LimiterOff s ∨ (s.rnd.round = .equalising ∨ s.rnd.round = .soak) ∧ (s.fld.pwmDuty ≠ 0 → s.rnd.duty ≠ 0))
    (hout : s.rnd.round = .transferOut → transfer = true)
    (hback : s.rnd.round = .transferBack → (if current then 1 else 0) + (if transfer then 1 else 0) +
      (if recovery then 1 else 0) = 1)
    (hcourse : (transfer = true → s.rnd.round = .transferOut ∨ s.rnd.round = .transferBack) ∧
      (recovery = true → s.rnd.round = .transferBack) ∧ (current = true → s.rnd.round = .transferBack))
    (hlatched : s.rnd.round = .stuck → s.rnd.inhibit = true) : Coherent s := by
  have hne (y : RoundState) (hy : inEqualise y = false) : s.rnd.round ≠ y := fun he => by
    rw [he, hy] at hin
    cases hin
  obtain ⟨hp, hwp, hh, hk, hwh, hrun, hwaiting⟩ := hclaims
  obtain ⟨hdemand, ⟨r, hr, hkind, hfixed⟩, hdoses⟩ := hround
  obtain ⟨hcw, htf, hrc, hcur, hrest⟩ := htimers
  exact
    { eqPending := hp, waterPending := hwp, eqHeld := hh, working := hk, waterHeld := hwh, onlyInRun := hrun
      eqWindow := heq.window, waterWindow := hwater.window, yielding := ⟨heq.yielding, hwater.yielding⟩
      relay := fun h => by
        obtain hf | ho | he | hs | hc := hrelay
        · rw [hf] at h
          cases h
        · exact .inl ho
        · exact .inr (.inl he)
        · exact .inr (.inr (.inl hs))
        · exact .inr (.inr (.inr (hcur.trans hc)))
      currentWait := fun h => ⟨hcourse.2.2 (hcur.symm.trans h), hwaiting h⟩
      duty := fun h => hlimiter.elim (fun hl => absurd hl.1 h) And.left
      limiter := hlimiter.elim (fun hl h => absurd hl.2 h) And.right
      demand := by rw [hdemand, hin]
      chargerWait := isSome_iff_of_eq hcw decide_eq_true_iff
      transferOut := fun h => htf.trans (hout h)
      transferFrom := fun h => hcourse.1 (htf.symm.trans h)
      recoveryCheck := fun h => hcourse.2.1 (hrc.symm.trans h)
      goingBack := fun h => by rw [hcur, htf, hrc]; exact hback h
      rest := ⟨isSome_elim hrest, fun h => absurd h (hne _ rfl)⟩
      latched := fun h => h.elim hlatched fun h => absurd h (hne _ rfl)
      equaliseRecord := fun _ => by rw [hr, Option.map_some, hkind]
      wateringRecord := fun h => absurd h (hne _ rfl)
      noRecord := fun h => Bool.noConfusion (h.symm.trans hin)
      outcomeFixed := fun h => by
        rw [hr]
        refine hfixed.trans ?_
        obtain h | h := h <;> rw [h] <;> rfl
      outcomeOpen := fun h => by
        rw [hr]
        refine Option.isNone_iff_eq_none.mp (Option.isSome_eq_false_iff.mp (hfixed.trans ?_))
        rw [h.resolve_right (hne _ rfl)]
        rfl
      valve := fun g h => by rw [hdoses.valve] at h; cases h
      pulse := by rw [hdoses.openPeriod, hdoses.valve]; rfl
      wateringTimers := fun h => by
        simp [hdoses.flowWindow, hdoses.earlyLimit, hdoses.offTime, hdoses.roundLimit, hdoses.closedPeriod, hdoses.plan] at h
      closed := fun _ => hdoses.valve }

theorem Coherent.of_watering (heq : s.clm.eq.Sound) (hwater : s.clm.water.Sound) (hclaims : ClaimsKept s)
    (hx : s.rnd.round = .watering) (hrelay : s.rnd.relay = .float) (hlimiter : LimiterOff s)
    (hdemand : s.rnd.demand = false) (htimers : TimersRun s.rnd false false false false false)
    (hrecord : RecordOpen .watering false s) (hdoses : DosesRun s.wat) : Coherent s := by
  obtain ⟨hp, hwp, hh, hk, hwh, hrun, hwaiting⟩ := hclaims
  obtain ⟨r, hr, hkind, hfixed⟩ := hrecord
  obtain ⟨hcw, htf, hrc, hcur, hrest⟩ := htimers
  have hne {y : RoundState} {p : Prop} (hy : RoundState.watering ≠ y) (h : s.rnd.round = y) : p :=
    absurd (hx.symm.trans h) hy
  exact
    { eqPending := hp, waterPending := hwp, eqHeld := hh, working := hk, waterHeld := hwh, onlyInRun := hrun
      eqWindow := heq.window, waterWindow := hwater.window, yielding := ⟨heq.yielding, hwater.yielding⟩
      relay := fun h => by rw [hrelay] at h; cases h
      currentWait := isSome_elim hcur
      duty := fun h => absurd hlimiter.1 h
      limiter := fun h => absurd hlimiter.2 h
      demand := by rw [hdemand, hx]; rfl
      chargerWait := ⟨isSome_elim hcw, hne RoundState.noConfusion⟩
      transferOut := hne RoundState.noConfusion
      transferFrom := isSome_elim htf
      recoveryCheck := isSome_elim hrc
      goingBack := hne RoundState.noConfusion
      rest := ⟨isSome_elim hrest, hne RoundState.noConfusion⟩
      latched := fun h => h.elim (hne RoundState.noConfusion) (hne RoundState.noConfusion)
      equaliseRecord := fun h => by rw [hx] at h; cases h
      wateringRecord := fun _ => by rw [hr, Option.map_some, hkind]
      noRecord := fun _ h => absurd hx h
      outcomeFixed := fun h => h.elim (hne RoundState.noConfusion) (hne RoundState.noConfusion)
      outcomeOpen := fun _ => by
        rw [hr]
        exact Option.isNone_iff_eq_none.mp (Option.isSome_eq_false_iff.mp hfixed)
      valve := fun g h => ⟨hx, hdoses.head g h⟩
      pulse := by rw [hdoses.pulse]
      wateringTimers := fun _ => hx
      closed := hdoses.closed }

/-- The parts together are `Coherent`. -/
theorem Coherent.of_parts (heq : s.clm.eq.Sound) (hwater : s.clm.water.Sound) (hclaims : ClaimsKept s)
    (hround : RoundFits s s.rnd.round) : Coherent s := by
  cases hx : s.rnd.round <;> rw [hx] at hround
  case float | due | claiming | waterDue | waterClaiming | rest =>
    exact .of_onFloat heq hwater hclaims (by simpa [hx, RoundFits] using hround) (by rw [hx]; rfl) (by simp [hx]) (by simp [hx])
  case inhibited =>
    exact .of_onFloat heq hwater hclaims (by simpa [hx] using hround.1) (by rw [hx]; rfl) (by simp [hx]) fun _ => hround.2
  case prepare =>
    obtain ⟨he, hl, hr, ht⟩ := hround
    exact .of_equalising heq hwater hclaims (by rw [hx]; rfl) (by rw [hx]; exact he) (by simpa [hx] using ht)
      (.inl hr) (.inl hl) (by simp [hx]) (by simp [hx]) (by simp) (by simp [hx])
  case transferOut =>
    obtain ⟨he, hl, ht⟩ := hround
    exact .of_equalising heq hwater hclaims (by rw [hx]; rfl) (by rw [hx]; exact he) (by simpa [hx] using ht)
      (.inr (.inl hx)) (.inl hl) (by simp) (by simp [hx]) (by simp [hx]) (by simp [hx])
  case equalising | soak =>
    obtain ⟨he, hl, ht⟩ := hround
    exact .of_equalising heq hwater hclaims (by rw [hx]; rfl) (by rw [hx]; exact he) (by simpa [hx] using ht)
      (by simp [hx]) (.inr ⟨by simp [hx], hl⟩) (by simp [hx]) (by simp [hx]) (by simp) (by simp [hx])
  case transferBack =>
    obtain ⟨he, hl, ht | ⟨hr, ht | ht⟩⟩ := hround
    · exact .of_equalising heq hwater hclaims (by rw [hx]; rfl) (by rw [hx]; exact he) (by simpa [hx] using ht)
        (by simp) (.inl hl) (by simp [hx]) (by simp) (by simp [hx]) (by simp [hx])
    · exact .of_equalising heq hwater hclaims (by rw [hx]; rfl) (by rw [hx]; exact he) (by simpa [hx] using ht)
        (.inl hr) (.inl hl) (by simp [hx]) (by simp) (by simp [hx]) (by simp [hx])
    · exact .of_equalising heq hwater hclaims (by rw [hx]; rfl) (by rw [hx]; exact he) (by simpa [hx] using ht)
        (.inl hr) (.inl hl) (by simp [hx]) (by simp) (by simp [hx]) (by simp [hx])
  case stuck =>
    obtain ⟨he, hl, hr, ht, hi⟩ := hround
    exact .of_equalising heq hwater hclaims (by rw [hx]; rfl) (by rw [hx]; exact he) (by simpa [hx] using ht)
      (.inl hr) (.inl hl) (by simp [hx]) (by simp [hx]) (by simp) fun _ => hi
  case watering =>
    obtain ⟨hr, hl, hd, ht, hrecord, hdoses⟩ := hround
    exact .of_watering heq hwater hclaims hx hr hl hd ht hrecord hdoses

end Sys2Proof.Machine
end

section
/-! SUPPORT. What the operations of RND make of a coherent round: an equalising round goes back, gets stuck or ends, a
watering round goes on or ends. -/

namespace Sys2Proof.Machine

open Sys2Proof

variable {s t u : State} {c : Clm} {mode : NodeMode}

/-! ### Changes that no part of the round sees -/

/-- A claim in the same state, with the same window and the same mark. -/
def SameClaim (m m' : ClaimMachine) : Prop :=
  m'.state = m.state ∧ m'.windowTimer = m.windowTimer ∧ m'.yielding = m.yielding

/-- A claim released, if it was HELD (R133). -/
def ReleasedClaim (m m' : ClaimMachine) : Prop :=
  (m.state = .held → m'.state = .releasing ∧ m'.windowTimer = m.windowTimer ∧ m'.yielding = false) ∧
    (m.state ≠ .held → m' = m)

theorem SameClaim.refl (m : ClaimMachine) : SameClaim m m := ⟨rfl, rfl, rfl⟩

theorem SameClaim.sound {m m' : ClaimMachine} (h : SameClaim m m') (hm : m.Sound) : m'.Sound := by
  obtain ⟨hstate, hwindow, hyield⟩ := h
  exact ⟨by rw [hstate, hwindow]; exact hm.window, by rw [hstate, hyield]; exact hm.yielding⟩

theorem ReleasedClaim.sound {m m' : ClaimMachine} (h : ReleasedClaim m m') (hm : m.Sound) : m'.Sound := by
  by_cases hh : m.state = .held
  · obtain ⟨hstate, hwindow, hyield⟩ := h.1 hh
    have hw := hm.window
    rw [hh] at hw
    exact ⟨by rw [hstate, hwindow, hw]; simp, by rw [hyield]; exact fun h => nomatch h⟩
  · rw [h.2 hh]
    exact hm

/-- `t` is `s` in all that `Coherent` looks at, but that the mode may change outside RUN. -/
structure SameRound (s t : State) : Prop where
  eq : SameClaim s.clm.eq t.clm.eq
  water : SameClaim s.clm.water t.clm.water
  round : t.rnd.round = s.rnd.round
  record : t.rnd.record = s.rnd.record
  relay : t.rnd.relay = s.rnd.relay
  duty : t.rnd.duty = s.rnd.duty
  demand : t.rnd.demand = s.rnd.demand
  inhibit : t.rnd.inhibit = s.rnd.inhibit
  chargerWait : t.rnd.chargerWait = s.rnd.chargerWait
  transferFrom : t.rnd.transferFrom = s.rnd.transferFrom
  recoveryCheck : t.rnd.recoveryCheck = s.rnd.recoveryCheck
  currentWait : t.rnd.currentWait = s.rnd.currentWait
  restPeriod : t.rnd.restPeriod = s.rnd.restPeriod
  plan : t.wat.plan = s.wat.plan
  valve : t.wat.valve = s.wat.valve
  openPeriod : t.wat.openPeriod = s.wat.openPeriod
  flowWindow : t.wat.flowWindow = s.wat.flowWindow
  earlyLimit : t.wat.earlyLimit = s.wat.earlyLimit
  offTime : t.wat.offTime = s.wat.offTime
  roundLimit : t.wat.roundLimit = s.wat.roundLimit
  closedPeriod : t.wat.closedPeriod = s.wat.closedPeriod
  pwmDuty : t.fld.pwmDuty = s.fld.pwmDuty
  mode : t.cfg.mode = s.cfg.mode ∨ s.cfg.mode ≠ .run

theorem SameRound.coherent (k : SameRound s t) (h : Coherent s) : Coherent t := by
  have hrun : ∀ {p : Prop}, (p → s.cfg.mode = .run) → p → t.cfg.mode = .run := fun h hp =>
    k.mode.elim (fun hm => hm.trans (h hp)) fun hm => absurd (h hp) hm
  obtain ⟨h1, h2, h3, h4, h5, h6, h7, h8, h9, h10, h11, h12, h13, h14, h15, h16, h17, h18, h19, h20, h21, h22, h23, h24,
    h25, h26, h27, h28, h29, h30⟩ := h
  replace h6 := hrun h6
  obtain ⟨⟨he, hew, hey⟩, ⟨hw, hww, hwy⟩, k1, k2, k3, k4, k5, k6, k7, k8, k9, k10, k11, k12, k13, k14, k15, k16, k17, k18,
    k19, k20, -⟩ := k
  constructor <;>
    simp only [he, hew, hey, hw, hww, hwy, k1, k2, k3, k4, k5, k6, k7, k8, k9, k10, k11, k12, k13, k14, k15, k16, k17, k18,
      k19, k20] <;>
    assumption

/-! ### The way back -/

/-- The states after a round end (R142, R176). -/
def RoundOver (x : RoundState) : Prop := x = .float ∨ x = .rest ∨ x = .inhibited

/-- `t` follows work under the claims `c`: on the way back, stuck, or at the round's end with the EQ claim released. -/
structure LeavesWork (c : Clm) (mode : NodeMode) (t : State) : Prop where
  fits : RoundFits t t.rnd.round
  mode : t.cfg.mode = mode
  water : t.clm.water = c.water
  waiting : t.rnd.currentWait.isSome = false
  eq : (t.rnd.round = .transferBack ∨ t.rnd.round = .stuck) ∧ SameClaim c.eq t.clm.eq ∨
    RoundOver t.rnd.round ∧ ReleasedClaim c.eq t.clm.eq

/-- An equalising round with its outcome fixed and the limiter off, neither waiting for the charger nor resting. -/
structure ComesBack (s : State) : Prop where
  round : Equalising s true
  limiter : LimiterOff s
  charger : s.rnd.chargerWait.isSome = false
  rest : s.rnd.restPeriod.isSome = false

theorem leavesWork_equaliseEnd (h : ComesBack s) (hrelay : s.rnd.relay = .float)
    (htransfer : s.rnd.transferFrom.isSome = false) (hcheck : s.rnd.recoveryCheck.isSome = false)
    (hwait : s.rnd.currentWait.isSome = false) : LeavesWork s.clm s.cfg.mode (equaliseEnd s) := by
  obtain ⟨⟨-, ⟨r, hr, -, hfixed⟩, hdoses⟩, hlimiter, hcharger, hrest⟩ := h
  obtain ⟨o, ho⟩ := Option.isSome_iff_exists.mp hfixed
  rw [equaliseEnd_eq hr ho rfl]
  have hclaim : ReleasedClaim s.clm.eq (if s.clm.eq.state = .held then
      { s.clm.eq with state := .releasing, reason := releaseReason o, yielding := false } else s.clm.eq) :=
    ⟨fun hh => by rw [if_pos hh]; exact ⟨rfl, rfl, rfl⟩, fun hh => if_neg hh⟩
  by_cases hi : s.rnd.inhibit = true
  · simp only [hi, if_true]
    exact ⟨⟨⟨hrelay, hlimiter, rfl, ⟨hcharger, htransfer, hcheck, hwait, hrest⟩, rfl, hdoses⟩, rfl⟩, rfl, rfl, hwait,
      .inr ⟨.inr (.inr rfl), hclaim⟩⟩
  · by_cases hc : o = .complete ∨ o = .timedOut
    · simp only [hi, if_pos hc, if_false, Bool.false_eq_true]
      exact ⟨⟨hrelay, hlimiter, rfl, ⟨hcharger, htransfer, hcheck, hwait, rfl⟩, rfl, hdoses⟩, rfl, rfl, hwait,
        .inr ⟨.inr (.inl rfl), hclaim⟩⟩
    · simp only [hi, if_neg hc, if_false, Bool.false_eq_true]
      exact ⟨⟨hrelay, hlimiter, rfl, ⟨hcharger, htransfer, hcheck, hwait, hrest⟩, rfl, hdoses⟩, rfl, rfl, hwait,
        .inr ⟨.inl rfl, hclaim⟩⟩

theorem leavesWork_enterStuck (h : ComesBack s) (hrelay : s.rnd.relay = .float)
    (hwait : s.rnd.currentWait.isSome = false) : LeavesWork s.clm s.cfg.mode (enterStuck s) := by
  obtain ⟨⟨hdemand, hrecord, hdoses⟩, hlimiter, hcharger, hrest⟩ := h
  rw [enterStuck_eq]
  refine ⟨⟨⟨hdemand, hrecord, hdoses⟩, hlimiter, hrelay, ⟨hcharger, rfl, rfl, hwait, hrest⟩, rfl⟩, rfl, rfl, hwait,
    .inl ⟨.inr rfl, ?_⟩⟩
  show SameClaim s.clm.eq (if s.clm.eq.state = .held then { s.clm.eq with share := 0 } else s.clm.eq)
  split <;> exact ⟨rfl, rfl, rfl⟩

theorem leavesWork_commandFloatWithCheck (h : ComesBack s) (hx : s.rnd.round = .transferBack) (latches : Bool) :
    LeavesWork s.clm s.cfg.mode (commandFloatWithCheck latches s) := by
  obtain ⟨⟨hdemand, hrecord, hdoses⟩, hlimiter, hcharger, hrest⟩ := h
  unfold commandFloatWithCheck
  dsimp only
  split
  · refine ⟨?_, rfl, rfl, rfl, .inl ⟨.inl hx, .refl _⟩⟩
    rw [show _ = RoundState.transferBack from hx]
    exact ⟨⟨hdemand, hrecord, hdoses⟩, hlimiter, .inr ⟨rfl, .inr ⟨hcharger, rfl, rfl, rfl, hrest⟩⟩⟩
  · exact leavesWork_equaliseEnd (s := { s with rnd.relay := .float, rnd.currentWait := none, rnd.transferFrom := none,
                                                rnd.recoveryCheck := none, rnd.inhibit := s.rnd.inhibit || latches })
      ⟨⟨hdemand, hrecord, hdoses⟩, hlimiter, hcharger, hrest⟩ rfl rfl rfl rfl

theorem leavesWork_commandFloatWithWindow (h : ComesBack s) (hx : s.rnd.round = .transferBack)
    (hcheck : s.rnd.recoveryCheck.isSome = false) : LeavesWork s.clm s.cfg.mode (commandFloatWithWindow s) := by
  obtain ⟨⟨hdemand, hrecord, hdoses⟩, hlimiter, hcharger, hrest⟩ := h
  unfold commandFloatWithWindow
  dsimp only
  split
  · refine ⟨?_, rfl, rfl, rfl, .inl ⟨.inl hx, .refl _⟩⟩
    rw [show _ = RoundState.transferBack from hx]
    exact ⟨⟨hdemand, hrecord, hdoses⟩, hlimiter, .inr ⟨rfl, .inl ⟨hcharger, rfl, hcheck, rfl, hrest⟩⟩⟩
  · exact leavesWork_enterStuck (s := { s with rnd.relay := .float, rnd.currentWait := none })
      ⟨⟨hdemand, hrecord, hdoses⟩, hlimiter, hcharger, hrest⟩ rfl rfl

/-- The outcome fixed and TRANSFER_BACK entered, out of an open round (R141, R156). -/
theorem comesBack_enterTransferBack (h : Equalising s false) (hcharger : s.rnd.chargerWait.isSome = false)
    (hrest : s.rnd.restPeriod.isSome = false) (o : RoundOutcome) (cause : Option AbortCause) :
    ComesBack (enterTransferBack (fixOutcome o cause s)) := by
  obtain ⟨hdemand, ⟨r, hr, hkind, hopen⟩, hdoses⟩ := h
  have hnone : r.outcome = none := Option.isNone_iff_eq_none.mp (Option.isSome_eq_false_iff.mp hopen)
  rw [enterTransferBack_fixOutcome_eq hr hnone]
  exact ⟨⟨hdemand, ⟨_, rfl, hkind, rfl⟩, hdoses⟩, ⟨rfl, rfl⟩, hcharger, hrest⟩

/-- A round goes back, its outcome fixed and float commanded with a recovery check. -/
theorem leavesWork_backWithCheck (h : Equalising s false) (hcharger : s.rnd.chargerWait.isSome = false)
    (hrest : s.rnd.restPeriod.isSome = false) (o : RoundOutcome) (cause : Option AbortCause) (latches : Bool) :
    LeavesWork s.clm s.cfg.mode (commandFloatWithCheck latches (enterTransferBack (fixOutcome o cause s))) :=
  leavesWork_commandFloatWithCheck (comesBack_enterTransferBack h hcharger hrest o cause) rfl latches

theorem leavesWork_moveOutFails (h : Equalising s false) (hcharger : s.rnd.chargerWait.isSome = false)
    (hrest : s.rnd.restPeriod.isSome = false) : LeavesWork s.clm s.cfg.mode (moveOutFails s) :=
  leavesWork_backWithCheck (s := { s with rnd.transferFrom := none, rnd.deferred := none }) ⟨h.1, h.2, h.3⟩ hcharger hrest
    _ _ _

theorem leavesWork_prepareEnds (h : Equalising s false) (hlimiter : LimiterOff s) (hrelay : s.rnd.relay = .float)
    (htimers : TimersRun s.rnd true false false false false) (o : RoundOutcome) (cause : Option AbortCause) :
    LeavesWork s.clm s.cfg.mode (prepareEnds o cause s) := by
  obtain ⟨hdemand, ⟨r, hr, hkind, hopen⟩, hdoses⟩ := h
  obtain ⟨-, htransfer, hcheck, hwait, hrest⟩ := htimers
  have hnone : r.outcome = none := Option.isNone_iff_eq_none.mp (Option.isSome_eq_false_iff.mp hopen)
  unfold prepareEnds
  rw [fixOutcome_eq (s := { s with rnd.chargerWait := none }) hr hnone]
  exact leavesWork_equaliseEnd
    (s := { s with rnd.chargerWait := none, rnd.record := some { r with outcome := some o, cause := cause } })
    ⟨⟨hdemand, ⟨_, rfl, hkind, rfl⟩, hdoses⟩, hlimiter, rfl, hrest⟩ hrelay htransfer hcheck hwait

/-- Claims that neither wait nor contend fit a round under way and a round that is over. -/
theorem ClaimsFit.settled {eq water : ClaimState} {x : RoundState} {wait : Bool} (hx : inEqualise x = true ∨ RoundOver x)
    (hep : ¬ claimPending eq) (hwp : ¬ claimPending water) (hwh : water ≠ .held)
    (hheld : eq = .held → inEqualise x = true ∧ mode = .run) (hwork : workingEqualise x = true → eq = .held)
    (hwait : wait = true → eq = .held) : ClaimsFit eq water x mode wait := by
  have hne (y : RoundState) (hy : inEqualise y = false) (hr : ¬ RoundOver y) : x ≠ y := by
    rintro rfl
    exact hx.elim (fun h => Bool.noConfusion (hy.symm.trans h)) hr
  have hover (y : RoundState) (h1 : y ≠ .float) (h2 : y ≠ .rest) (h3 : y ≠ .inhibited) : ¬ RoundOver y :=
    fun h => h.elim h1 (fun h => h.elim h2 h3)
  refine ⟨⟨fun h => absurd h hep, fun h => absurd h ?_⟩, ⟨fun h => absurd h hwp, fun h => absurd h ?_⟩,
    fun h => (hheld h).1, hwork, ⟨fun h => absurd h hwh, fun h => absurd h ?_⟩, ?_, hwait⟩
  · exact hne .claiming rfl (by simp [RoundOver])
  · exact hne .waterClaiming rfl (by simp [RoundOver])
  · exact hne .watering rfl (by simp [RoundOver])
  · rintro (h | h | h | h | h | h)
    · exact absurd h hep
    · exact (hheld h).2
    · exact absurd h hwp
    · exact absurd h hwh
    · exact absurd h (hne .due rfl (by simp [RoundOver]))
    · exact absurd h (hne .waterDue rfl (by simp [RoundOver]))

/-- In an equalising round no claim waits or contends, no WATER claim is HELD, and a HELD EQ claim is one of RUN. -/
theorem Coherent.equalise_claims (h : Coherent s) (hin : inEqualise s.rnd.round = true) :
    ¬ claimPending s.clm.eq.state ∧ ¬ claimPending s.clm.water.state ∧ s.clm.water.state ≠ .held ∧
      (s.clm.eq.state = .held → s.cfg.mode = .run) := by
  refine ⟨fun hp => ?_, fun hp => ?_, fun hp => ?_, fun hp => h.onlyInRun (.inr (.inl hp))⟩
  · rw [h.eqPending.mp hp] at hin
    cases hin
  · rw [h.waterPending.mp hp] at hin
    cases hin
  · rw [h.waterHeld.mp hp] at hin
    cases hin

/-- The claims of a state that follows work fit it again. -/
theorem Coherent.leavesWork (h : Coherent s) (hin : inEqualise s.rnd.round = true)
    (k : LeavesWork s.clm s.cfg.mode t) : Coherent t := by
  obtain ⟨heq, hwater⟩ := h.sound
  obtain ⟨hep, hwp, hwh, hrun⟩ := h.equalise_claims hin
  obtain ⟨hfits, hmode, hsame, hwait, hclaim⟩ := k
  have hno {p : Prop} : t.rnd.currentWait.isSome = true → p := isSome_elim hwait
  obtain ⟨hround, hk⟩ | ⟨hround, hk⟩ := hclaim
  · have hin' : inEqualise t.rnd.round = true ∧ workingEqualise t.rnd.round = false := by
      obtain hx | hx := hround <;> rw [hx] <;> exact ⟨rfl, rfl⟩
    refine .of_parts (hk.sound heq) (hsame ▸ hwater) (.settled (.inl hin'.1) ?_ (hsame ▸ hwp) (hsame ▸ hwh) ?_ ?_ hno) hfits
    · rw [hk.1]
      exact hep
    · rw [hk.1, hmode]
      exact fun hh => ⟨hin'.1, hrun hh⟩
    · rw [hin'.2]
      exact fun hw => nomatch hw
  · have hrel : ¬ claimPending t.clm.eq.state ∧ t.clm.eq.state ≠ .held := by
      by_cases hh : s.clm.eq.state = .held
      · rw [(hk.1 hh).1]
        simp [claimPending]
      · rw [hk.2 hh]
        exact ⟨hep, hh⟩
    have hwork : workingEqualise t.rnd.round = false := by
      obtain hx | hx | hx := hround <;> rw [hx] <;> rfl
    refine .of_parts (hk.sound heq) (hsame ▸ hwater) (.settled (.inr hround) hrel.1 (hsame ▸ hwp) (hsame ▸ hwh)
      (fun hh => absurd hh hrel.2) ?_ hno) hfits
    rw [hwork]
    exact fun hw => nomatch hw

end Sys2Proof.Machine
end

section
/-! SUPPORT. The operations of the equalising round keep a coherent round coherent. -/

namespace Sys2Proof.Machine

open Sys2Proof

variable {s t u : State}

/-! ### What each state gives -/

theorem Coherent.fits (h : Coherent s) {x : RoundState} (hx : s.rnd.round = x) : RoundFits s x := hx ▸ h.roundFits

/-- A change that leaves the HELD claim alone and a round that fits. -/
theorem Coherent.stillHeld (h : Coherent s) (hw : workingEqualise s.rnd.round = true)
    (heq : SameClaim s.clm.eq t.clm.eq) (hwater : SameClaim s.clm.water t.clm.water) (hmode : t.cfg.mode = s.cfg.mode)
    (hin : inEqualise t.rnd.round = true) (hfits : RoundFits t t.rnd.round) : Coherent t := by
  have hheld := h.working hw
  obtain ⟨hep, hwp, hwh, hrun⟩ := h.equalise_claims (inEqualise_of_working hw)
  have hheld' : t.clm.eq.state = .held := heq.1.trans hheld
  exact .of_parts (heq.sound h.sound.1) (hwater.sound h.sound.2)
    (.settled (.inl hin) (by rw [heq.1]; exact hep) (by rw [hwater.1]; exact hwp) (by rw [hwater.1]; exact hwh)
      (fun _ => ⟨hin, hmode.trans (hrun hheld)⟩) (fun _ => hheld') (fun _ => hheld')) hfits

/-! ### Going back -/

theorem roundFits_goBack (h : Equalising s false) (ht : TimersRun s.rnd false false false false false)
    (o : RoundOutcome) (cause : Option AbortCause) : RoundFits (goBack o cause s) .transferBack := by
  obtain ⟨hdemand, ⟨r, hr, hkind, hopen⟩, hdoses⟩ := h
  obtain ⟨hcharger, htransfer, hcheck, -, hrest⟩ := ht
  rw [goBack_eq hr (Option.isNone_iff_eq_none.mp (Option.isSome_eq_false_iff.mp hopen))]
  exact ⟨⟨hdemand, ⟨_, rfl, hkind, rfl⟩, hdoses⟩, ⟨rfl, rfl⟩, .inl ⟨hcharger, htransfer, hcheck, rfl, hrest⟩⟩

theorem Coherent.goBack (h : Coherent s) (hx : s.rnd.round = .equalising ∨ s.rnd.round = .soak) (o : RoundOutcome)
    (cause : Option AbortCause) : Coherent (goBack o cause s) := by
  have hw : workingEqualise s.rnd.round = true := by obtain hx | hx := hx <;> rw [hx] <;> rfl
  have hf : Equalising s false ∧ TimersRun s.rnd false false false false false := by
    obtain hx | hx := hx <;> exact ⟨(h.fits hx).1, (h.fits hx).2.2⟩
  exact h.stillHeld hw (.refl _) (.refl _) rfl rfl (roundFits_goBack hf.1 hf.2 o cause)

theorem Coherent.prepareEnds (h : Coherent s) (hx : s.rnd.round = .prepare) (o : RoundOutcome)
    (cause : Option AbortCause) : Coherent (prepareEnds o cause s) := by
  obtain ⟨he, hl, hr, ht⟩ := h.fits hx
  exact h.leavesWork (by rw [hx]; rfl) (leavesWork_prepareEnds he hl hr ht o cause)

/-- An open round goes back with float commanded and a recovery check. -/
theorem Coherent.backWithCheck (h : Coherent s) (hx : s.rnd.round = .equalising ∨ s.rnd.round = .soak)
    (cause : AbortCause) :
    Coherent (commandFloatWithCheck false
      (enterTransferBack (fixOutcome .aborted (some cause) { s with rnd.inhibit := true }))) := by
  have hf : Equalising s false ∧ TimersRun s.rnd false false false false false := by
    obtain hx | hx := hx <;> exact ⟨(h.fits hx).1, (h.fits hx).2.2⟩
  obtain ⟨⟨hdemand, hrecord, hdoses⟩, ht⟩ := hf
  refine h.leavesWork (by obtain hx | hx := hx <;> rw [hx] <;> rfl) ?_
  exact leavesWork_backWithCheck (s := { s with rnd.inhibit := true }) ⟨hdemand, hrecord, hdoses⟩ ht.charger ht.rest _ _ _

theorem Coherent.comesBack (h : Coherent s) (hx : s.rnd.round = .transferBack) : ComesBack s := by
  obtain ⟨he, hl, ht⟩ := h.fits hx
  obtain ht | ⟨-, ht | ht⟩ := ht <;> exact ⟨he, hl, ht.charger, ht.rest⟩

/-! ### The move out -/

theorem Coherent.moveOutFails (h : Coherent s) (hx : s.rnd.round = .transferOut) : Coherent (moveOutFails s) := by
  obtain ⟨he, -, ht⟩ := h.fits hx
  exact h.leavesWork (by rw [hx]; rfl) (leavesWork_moveOutFails he ht.charger ht.rest)

theorem Coherent.moveOutSucceeds (h : Coherent s) (hx : s.rnd.round = .transferOut) : Coherent (moveOutSucceeds s) := by
  obtain ⟨⟨hdemand, hrecord, hdoses⟩, hl, ⟨hcharger, -, hcheck, hwait, hrest⟩⟩ := h.fits hx
  have hw : workingEqualise s.rnd.round = true := by rw [hx]; rfl
  have hback (o : RoundOutcome) (cause : Option AbortCause) :
      Coherent (Machine.goBack o cause { s with rnd.transferFrom := none, rnd.deferred := none }) :=
    h.stillHeld hw (.refl _) (.refl _) rfl rfl
      (roundFits_goBack (s := { s with rnd.transferFrom := none, rnd.deferred := none }) ⟨hdemand, hrecord, hdoses⟩
        ⟨hcharger, rfl, hcheck, hwait, hrest⟩ o cause)
  unfold Machine.moveOutSucceeds
  dsimp only
  split
  · exact h.stillHeld hw (.refl _) (.refl _) rfl rfl
      ⟨⟨hdemand, hrecord, hdoses⟩, fun hp => absurd rfl hp, ⟨hcharger, rfl, hcheck, hwait, hrest⟩⟩
  all_goals exact hback _ _

theorem Coherent.enterTransferOut (h : Coherent s) (hx : s.rnd.round = .prepare) : Coherent (enterTransferOut s) := by
  obtain ⟨⟨hdemand, hrecord, hdoses⟩, hl, -, ⟨-, htransfer, hcheck, hwait, hrest⟩⟩ := h.fits hx
  have hw : workingEqualise s.rnd.round = true := by rw [hx]; rfl
  unfold Machine.enterTransferOut
  dsimp only
  split
  · exact h.leavesWork (inEqualise_of_working hw) (leavesWork_moveOutFails
      (s := { s with rnd.round := .transferOut, rnd.chargerWait := none, rnd.relay := .equalise, rnd.deferred := none })
      ⟨hdemand, hrecord, hdoses⟩ rfl hrest)
  · exact h.stillHeld hw (.refl _) (.refl _) rfl rfl
      ⟨⟨hdemand, hrecord, hdoses⟩, hl, ⟨rfl, rfl, hcheck, hwait, hrest⟩⟩

/-! ### The way back -/

theorem Coherent.commandFloatWithWindow (h : Coherent s) (hwait : s.rnd.currentWait.isSome = true) :
    Coherent (commandFloatWithWindow s) := by
  obtain ⟨hx, -⟩ := h.currentWait hwait
  have ht : s.rnd.recoveryCheck.isSome = false := by
    obtain ⟨-, -, ht | ⟨-, ht | ht⟩⟩ := h.fits hx
    · exact ht.recovery
    all_goals exact Bool.noConfusion (ht.current.symm.trans hwait)
  exact h.leavesWork (by rw [hx]; rfl) (leavesWork_commandFloatWithWindow (h.comesBack hx) hx ht)

/-- A way back with no current wait stands under a float command (R156). -/
theorem Coherent.floatCommanded (h : Coherent s) (hx : s.rnd.round = .transferBack)
    (hrun : s.rnd.transferFrom.isSome = true ∨ s.rnd.recoveryCheck.isSome = true) :
    s.rnd.relay = .float ∧ s.rnd.currentWait.isSome = false := by
  obtain ⟨-, -, ht | ⟨hr, ht | ht⟩⟩ := h.fits hx
  · rw [ht.transfer, ht.recovery] at hrun
    exact absurd hrun (by simp)
  · exact ⟨hr, ht.current⟩
  · exact ⟨hr, ht.current⟩

theorem Coherent.enterStuck (h : Coherent s) (hx : s.rnd.round = .transferBack)
    (hrun : s.rnd.transferFrom.isSome = true ∨ s.rnd.recoveryCheck.isSome = true) : Coherent (enterStuck s) := by
  obtain ⟨hr, hw⟩ := h.floatCommanded hx hrun
  exact h.leavesWork (by rw [hx]; rfl) (leavesWork_enterStuck (h.comesBack hx) hr hw)

theorem Coherent.recoverySucceeds (h : Coherent s) (hx : s.rnd.round = .transferBack)
    (hcheck : s.rnd.recoveryCheck.isSome = true) (latches : Bool) : Coherent (recoverySucceeds latches s) := by
  obtain ⟨hr, hw⟩ := h.floatCommanded hx (.inr hcheck)
  obtain ⟨⟨hdemand, hrecord, hdoses⟩, hl, hcharger, hrest⟩ := h.comesBack hx
  have hf : s.rnd.transferFrom.isSome = false := by
    obtain ⟨-, -, ht | ⟨-, ht | ht⟩⟩ := h.fits hx
    · exact ht.transfer
    · exact Bool.noConfusion (ht.recovery.symm.trans hcheck)
    · exact ht.transfer
  exact h.leavesWork (by rw [hx]; rfl) (leavesWork_equaliseEnd
    (s := { s with rnd.recoveryCheck := none, rnd.inhibit := s.rnd.inhibit || latches })
    ⟨⟨hdemand, hrecord, hdoses⟩, hl, hcharger, hrest⟩ hr hf rfl hw)

theorem Coherent.transferLate (h : Coherent s) (hrun : s.rnd.transferFrom.isSome = true) :
    Coherent (transferLate { s with rnd.transferFrom := none }) := by
  obtain hx | hx := h.transferFrom hrun
  · obtain ⟨⟨hdemand, hrecord, hdoses⟩, -, ht⟩ := h.fits hx
    have he : Machine.transferLate { s with rnd.transferFrom := none } =
        Machine.moveOutFails { s with rnd.transferFrom := none } := by
      unfold Machine.transferLate
      dsimp only
      rw [hx]
    rw [he]
    exact h.leavesWork (by rw [hx]; rfl) (leavesWork_moveOutFails (s := { s with rnd.transferFrom := none })
      ⟨hdemand, hrecord, hdoses⟩ ht.charger ht.rest)
  · have he : Machine.transferLate { s with rnd.transferFrom := none } =
        Machine.enterStuck { s with rnd.transferFrom := none } := by
      unfold Machine.transferLate
      dsimp only
      rw [hx]
    obtain ⟨hr, hw⟩ := h.floatCommanded hx (.inl hrun)
    obtain ⟨⟨hdemand, hrecord, hdoses⟩, hl, hcharger, hrest⟩ := h.comesBack hx
    rw [he]
    exact h.leavesWork (by rw [hx]; rfl) (leavesWork_enterStuck (s := { s with rnd.transferFrom := none })
      ⟨⟨hdemand, hrecord, hdoses⟩, hl, hcharger, hrest⟩ hr hw)

end Sys2Proof.Machine
end

section
/-! SUPPORT. The operations of the claims and of the watering round keep a coherent round coherent. -/

namespace Sys2Proof.Machine

open Sys2Proof

variable {s t u : State} {r : Resource}

/-! ### No claim under way -/

/-- A machine whose claim is over or was never made. -/
structure ClaimMachine.Settled (m : ClaimMachine) : Prop where
  sound : m.Sound
  pending : ¬ claimPending m.state
  held : m.state ≠ .held

/-- No claim waits, contends or is HELD. -/
structure NoClaims (c : Clm) : Prop where
  eq : c.eq.Settled
  water : c.water.Settled

/-- The round states outside both rounds in which no claim is under way. -/
def Unclaimed (x : RoundState) : Prop := x = .float ∨ x = .due ∨ x = .waterDue ∨ x = .rest ∨ x = .inhibited

theorem Coherent.of_unclaimed (hclaims : NoClaims s.clm) (hx : Unclaimed s.rnd.round)
    (hfloat : OnFloat s (decide (s.rnd.round = .rest)))
    (hrun : s.rnd.round = .due ∨ s.rnd.round = .waterDue → s.cfg.mode = .run)
    (hlatched : s.rnd.round = .inhibited → s.rnd.inhibit = true) : Coherent s := by
  obtain ⟨⟨hes, hep, heh⟩, ⟨hws, hwp, hwh⟩⟩ := hclaims
  have hfacts : inEqualise s.rnd.round = false ∧ workingEqualise s.rnd.round = false ∧ s.rnd.round ≠ .claiming ∧
      s.rnd.round ≠ .waterClaiming ∧ s.rnd.round ≠ .watering := by
    obtain hx | hx | hx | hx | hx := hx <;> rw [hx] <;> exact ⟨rfl, rfl, by simp, by simp, by simp⟩
  obtain ⟨hout, hwork, hc, hwc, hw⟩ := hfacts
  refine .of_onFloat hes hws ⟨iff_of_false hep hc, iff_of_false hwp hwc, fun h => absurd h heh, ?_,
    iff_of_false hwh hw, ?_, ?_⟩ hfloat hout hw hlatched
  · rw [hwork]
    exact fun h => nomatch h
  · rintro (h | h | h | h | h)
    · exact absurd h hep
    · exact absurd h heh
    · exact absurd h hwp
    · exact absurd h hwh
    · exact hrun h
  · rw [hfloat.timers.current]
    exact fun h => nomatch h

theorem Coherent.settled_eq (h : Coherent s) (hx : s.rnd.round ≠ .claiming) (hout : inEqualise s.rnd.round = false) :
    s.clm.eq.Settled :=
  ⟨h.sound.1, fun hp => hx (h.eqPending.mp hp), fun hh => Bool.noConfusion (hout.symm.trans (h.eqHeld hh))⟩

theorem Coherent.settled_water (h : Coherent s) (hx : s.rnd.round ≠ .waterClaiming) (hw : s.rnd.round ≠ .watering) :
    s.clm.water.Settled :=
  ⟨h.sound.2, fun hp => hx (h.waterPending.mp hp), fun hh => hw (h.waterHeld.mp hh)⟩

theorem Coherent.noClaims (h : Coherent s) (hx : Unclaimed s.rnd.round) : NoClaims s.clm := by
  refine ⟨h.settled_eq ?_ ?_, h.settled_water ?_ ?_⟩
  all_goals obtain hx | hx | hx | hx | hx := hx <;> rw [hx] <;> first | rfl | exact RoundState.noConfusion

/-! ### Claims withdrawn -/

theorem ClaimMachine.Sound.dropped {m : ClaimMachine} (h : m.Sound) (hq : m.state = .queued) :
    ClaimMachine.Settled { m with state := .none } := by
  have hw := h.window
  have hy := h.yielding
  rw [hq] at hw hy
  exact ⟨⟨by simpa using hw, fun hy' => absurd (hy hy') (by simp)⟩, by simp [claimPending], by simp⟩

theorem ClaimMachine.Sound.withdrawn {m : ClaimMachine} (h : m.Sound) (hq : m.state = .contending) :
    ClaimMachine.Settled { m with state := .releasing, reason := .withdrawn, windowTimer := none } := by
  have hy := h.yielding
  rw [hq] at hy
  exact ⟨⟨by simp, fun hy' => absurd (hy hy') (by simp)⟩, by simp [claimPending], by simp⟩

/-- The state that waits or contends for a resource, and the one it goes back to (R68, R69, R70, R124). -/
def claimingState : Resource → RoundState
  | .eq => .claiming
  | .water => .waterClaiming

def dueState : Resource → RoundState
  | .eq => .due
  | .water => .waterDue

theorem Coherent.pending_iff (h : Coherent s) (r : Resource) :
    claimPending (s.clm.machine r).state ↔ s.rnd.round = claimingState r := by
  cases r
  · exact h.eqPending
  · exact h.waterPending

theorem Coherent.sound_machine (h : Coherent s) (r : Resource) : (s.clm.machine r).Sound := by
  cases r
  · exact h.sound.1
  · exact h.sound.2

/-- A pending claim settled in place of the machine: no claim is left (R129). -/
theorem Coherent.noClaims_withMachine (h : Coherent s) (hp : claimPending (s.clm.machine r).state) {m : ClaimMachine}
    (hm : m.Settled) (b : Option Nat) : NoClaims ((s.clm.withMachine r m).withBackOff r b) := by
  have hx := (h.pending_iff r).mp hp
  cases r
  · have hx : s.rnd.round = .claiming := hx
    exact ⟨hm, h.settled_water (by simp [hx]) (by simp [hx])⟩
  · have hx : s.rnd.round = .waterClaiming := hx
    exact ⟨h.settled_eq (by simp [hx]) (by rw [hx]; rfl), hm⟩

/-- What withdrawing a pending claim leaves (R129, R130). -/
theorem Coherent.withdraw_eq (h : Coherent s) (hp : claimPending (s.clm.machine r).state) :
    ∃ c, withdraw r s = { s with clm := c } ∧ NoClaims c := by
  obtain hq | hq := hp
  · refine ⟨_, withdraw_queued hq, ?_⟩
    have hc := h.noClaims_withMachine (.inl hq) ((h.sound_machine r).dropped hq) none
    cases r <;> exact ⟨hc.eq, hc.water⟩
  · refine ⟨_, withdraw_contending hq, ?_⟩
    exact h.noClaims_withMachine (.inr hq) ((h.sound_machine r).withdrawn hq) _

/-- The string with its claims settled stands on float, waits again or is inhibited. -/
theorem Coherent.unclaimed (h : Coherent s) (hx : s.rnd.round = claimingState r) {c : Clm} (hc : NoClaims c)
    {y : RoundState} (hy : y = .float ∨ y = dueState r) : Coherent { s with clm := c, rnd.round := y } := by
  have hfloat : OnFloat s false := by cases r <;> exact h.fits hx
  have hrun : s.cfg.mode = .run := by
    cases r
    · exact h.onlyInRun (.inl (h.eqPending.mpr hx))
    · exact h.onlyInRun (.inr (.inr (.inl (h.waterPending.mpr hx))))
  obtain ⟨hrelay, hlimiter, hdemand, htimers, hrecord, hdoses⟩ := hfloat
  have hy' : y = .float ∨ y = .due ∨ y = .waterDue := by
    obtain hy | hy := hy
    · exact .inl hy
    · cases r
      · exact .inr (.inl hy)
      · exact .inr (.inr hy)
  refine .of_unclaimed hc ?_ ⟨hrelay, hlimiter, hdemand, ?_, hrecord, hdoses⟩ (fun _ => hrun) ?_
  · obtain rfl | rfl | rfl := hy' <;> simp [Unclaimed]
  · obtain ⟨t1, t2, t3, t4, t5⟩ := htimers
    obtain rfl | rfl | rfl := hy' <;> exact ⟨t1, t2, t3, t4, t5⟩
  · obtain rfl | rfl | rfl := hy' <;> simp

theorem Coherent.withdrawFloat (h : Coherent s) (hx : s.rnd.round = claimingState r) :
    Coherent { withdraw r s with rnd.round := .float } := by
  obtain ⟨c, he, hc⟩ := h.withdraw_eq ((h.pending_iff r).mpr hx)
  rw [he]
  exact h.unclaimed hx hc (.inl rfl)

theorem Coherent.withdrawDue (h : Coherent s) (hp : claimPending (s.clm.machine r).state) :
    Coherent (backToDue r (withdraw r s)) := by
  have hx := (h.pending_iff r).mp hp
  obtain ⟨c, he, hc⟩ := h.withdraw_eq hp
  rw [he, backToDue_eq (by cases r <;> exact hx)]
  exact h.unclaimed hx hc (.inr (by cases r <;> rfl))

theorem Coherent.withdrawBackOff (h : Coherent s) (hp : claimPending (s.clm.machine r).state) :
    ∃ c, startBackOff r (withdraw r s) = { s with clm := c } ∧ NoClaims c := by
  obtain ⟨c, he, hc⟩ := h.withdraw_eq hp
  refine ⟨_, by rw [he]; rfl, ?_⟩
  cases r <;> exact ⟨hc.eq, hc.water⟩

theorem Coherent.holdMachine (h : Coherent s) (r : Resource) : Coherent (holdMachine r s) := by
  by_cases hp : claimPending (s.clm.machine r).state
  · have he : Machine.holdMachine r s = backToDue r (withdraw r s) := by
      unfold Machine.holdMachine
      obtain hq | hq := hp <;> rw [hq]
    rw [he]
    exact h.withdrawDue hp
  · rw [holdMachine_not_pending hp]
    exact h

theorem Coherent.stopClaim (h : Coherent s) (hx : s.rnd.round = claimingState r) : Coherent (stopClaim r s) := by
  have hp := (h.pending_iff r).mpr hx
  have he : Machine.stopClaim r s = { startBackOff r (withdraw r s) with rnd.round := .float } := by
    unfold Machine.stopClaim
    obtain hq | hq := hp <;> rw [hq]
  obtain ⟨c, hw, hc⟩ := h.withdrawBackOff hp
  rw [he, hw]
  exact h.unclaimed hx hc (.inl rfl)

/-- The string inhibited at an uncommanded edge (R146). -/
theorem coherent_uncommanded (hc : NoClaims s.clm) {b : Bool} (hf : OnFloat s b) : Coherent (uncommandedOutsideRound s) := by
  obtain ⟨hrelay, hlimiter, hdemand, ⟨t1, t2, t3, t4, -⟩, hrecord, hdoses⟩ := hf
  rw [uncommandedOutsideRound_eq]
  exact .of_unclaimed (s := State.statusAsked { s with rnd.inhibit := true, rnd.restPeriod := none, rnd.round := .inhibited })
    ⟨hc.eq, hc.water⟩ (.inr (.inr (.inr (.inr rfl)))) ⟨hrelay, hlimiter, hdemand, ⟨t1, t2, t3, t4, rfl⟩, hrecord, hdoses⟩
    (fun h => h.elim (fun h => nomatch h) (fun h => nomatch h)) fun _ => rfl

theorem Coherent.uncommanded_withdraw (h : Coherent s) (hx : s.rnd.round = claimingState r) :
    Coherent (uncommandedOutsideRound (withdraw r s)) := by
  obtain ⟨c, he, hc⟩ := h.withdraw_eq ((h.pending_iff r).mpr hx)
  have hfloat : OnFloat s false := by cases r <;> exact h.fits hx
  rw [he]
  exact coherent_uncommanded hc (b := false) ⟨hfloat.1, hfloat.2, hfloat.3, hfloat.4, hfloat.5, hfloat.6⟩

end Sys2Proof.Machine
end

section
/-! SUPPORT. The operations of the watering round, of the hold and of the loss of a claim keep a coherent round coherent. -/

namespace Sys2Proof.Machine

open Sys2Proof

variable {s t u : State} {r : Resource}

/-! ### The watering round -/

/-- A watering round is under way, whatever its pulses do. -/
structure Waters (s : State) : Prop where
  round : s.rnd.round = .watering
  relay : s.rnd.relay = .float
  limiter : LimiterOff s
  demand : s.rnd.demand = false
  timers : TimersRun s.rnd false false false false false
  record : RecordOpen .watering false s
  eq : s.clm.eq.Settled
  water : s.clm.water.Sound
  held : s.clm.water.state = .held

theorem Coherent.waters (h : Coherent s) (hx : s.rnd.round = .watering) : Waters s := by
  obtain ⟨hr, hl, hd, ht, hrec, -⟩ := h.fits hx
  exact ⟨hx, hr, hl, hd, ht, hrec, h.settled_eq (by simp [hx]) (by rw [hx]; rfl), h.sound.2, h.waterHeld.mpr hx⟩

theorem Coherent.dosesRun (h : Coherent s) (hx : s.rnd.round = .watering) : DosesRun s.wat := by
  obtain ⟨-, -, -, -, -, hd⟩ := h.fits hx
  exact hd

theorem Coherent.run_of_watering (h : Coherent s) (hx : s.rnd.round = .watering) : s.cfg.mode = .run :=
  h.onlyInRun (.inr (.inr (.inr (.inl (h.waterHeld.mpr hx)))))

theorem Waters.coherent (h : Waters s) (hm : s.cfg.mode = .run) (hd : DosesRun s.wat) : Coherent s := by
  obtain ⟨hx, hr, hl, hdem, ht, hrec, ⟨hes, hep, heh⟩, hws, hheld⟩ := h
  refine .of_watering hes hws ⟨iff_of_false hep (by simp [hx]), iff_of_false ?_ (by simp [hx]), fun hh => absurd hh heh,
    fun hw => ?_, iff_of_true hheld hx, fun _ => hm, fun hw => ?_⟩ hx hr hl hdem ht hrec hd
  · rw [hheld]
    simp [claimPending]
  · rw [hx] at hw
    cases hw
  · rw [ht.current] at hw
    cases hw

theorem Waters.ends (h : Waters s) (o : RoundOutcome) (cause : Option AbortCause) : Coherent (wateringEnds o cause s) := by
  obtain ⟨hx, hr, hl, hdem, ⟨t1, t2, t3, t4, t5⟩, ⟨q, hq, -, hopen⟩, heq, hws, hheld⟩ := h
  have hnone : q.outcome = none := Option.isNone_iff_eq_none.mp (Option.isSome_eq_false_iff.mp hopen)
  have hwater : ClaimMachine.Settled { s.clm.water with state := .releasing, reason := releaseReason o, yielding := false } := by
    have hw := hws.window
    rw [hheld] at hw
    exact ⟨⟨by simpa using hw, fun hy => nomatch hy⟩, by simp [claimPending], by simp⟩
  rw [wateringEnds_eq hq hnone]
  simp only [if_pos hheld]
  by_cases hi : s.rnd.inhibit = true
  · simp only [hi, if_true]
    exact .of_unclaimed ⟨heq, hwater⟩ (.inr (.inr (.inr (.inr rfl))))
      ⟨hr, hl, hdem, ⟨t1, t2, t3, t4, t5⟩, rfl, ⟨rfl, rfl, rfl, rfl, rfl, rfl, rfl, rfl⟩⟩ (by simp) fun _ => rfl
  · simp only [hi, if_false, Bool.false_eq_true]
    exact .of_unclaimed ⟨heq, hwater⟩ (.inl rfl)
      ⟨hr, hl, hdem, ⟨t1, t2, t3, t4, t5⟩, rfl, ⟨rfl, rfl, rfl, rfl, rfl, rfl, rfl, rfl⟩⟩ (by simp) (by simp)

/-- A change of the watering side, the account and the latches alone. -/
theorem Waters.congr (h : Waters s) (hrnd : t.rnd = { s.rnd with inhibit := t.rnd.inhibit }) (heq : t.clm.eq = s.clm.eq)
    (hwater : t.clm.water = s.clm.water) (hpwm : t.fld.pwmDuty = s.fld.pwmDuty) : Waters t := by
  obtain ⟨hx, hr, ⟨hl, hp⟩, hd, ⟨t1, t2, t3, t4, t5⟩, ⟨q, hq, hk, ho⟩, he, hw, hh⟩ := h
  refine ⟨?_, ?_, ⟨?_, hpwm.trans hp⟩, ?_, ⟨?_, ?_, ?_, ?_, ?_⟩, ⟨q, ?_, hk, ho⟩, heq ▸ he, hwater ▸ hw, hwater ▸ hh⟩ <;>
    rw [hrnd] <;> assumption

theorem Waters.conflict (h : Waters s) : Coherent (wateringConflict s) :=
  Waters.ends (s := { s with rnd.inhibit := true }) (h.congr rfl rfl rfl rfl) _ _

theorem Waters.runsDry (h : Waters s) : Coherent (wateringDry s) :=
  Waters.ends (s := { s with wat.dry := true, wat.dryTimer := some (s.now + dryLatchUs) }) (h.congr rfl rfl rfl rfl) _ _

theorem dosesRun_openPulse {g : Fin 8} (hp : s.wat.plan.head? = some g) : DosesRun (openPulse g s).wat :=
  ⟨fun _ hg => by cases hg; exact hp, rfl, fun h => nomatch h⟩

theorem Waters.openPulse (h : Waters s) (hm : s.cfg.mode = .run) {g : Fin 8} (hp : s.wat.plan.head? = some g) :
    Coherent (openPulse g s) :=
  (h.congr rfl rfl rfl rfl : Waters (Machine.openPulse g s)).coherent hm (dosesRun_openPulse hp)

theorem Waters.startGroups (l : List (Fin 8)) : ∀ {s : State}, Waters s → s.cfg.mode = .run → Coherent (startGroups l s) := by
  induction l with
  | nil =>
    intro s h hm
    exact Waters.ends (s := { s with wat.plan := [] }) (h.congr rfl rfl rfl rfl) _ _
  | cons g rest ih =>
    intro s h hm
    unfold Machine.startGroups
    split
    · exact ih (h.congr rfl rfl rfl rfl) hm
    · exact Waters.openPulse (s := { s with wat.plan := g :: rest }) (h.congr rfl rfl rfl rfl) hm rfl

theorem Waters.closedPeriodEnds (h : Waters s) (hm : s.cfg.mode = .run) (hd : DosesRun s.wat) :
    Coherent (closedPeriodEnds s) := by
  unfold Machine.closedPeriodEnds
  split
  · exact Waters.coherent (s := { s with wat.closedPeriod := false }) (h.congr rfl rfl rfl rfl) hm
      ⟨hd.head, hd.pulse, fun h => nomatch h⟩
  · next g rest hp =>
    split
    · exact Waters.startGroups rest (h.congr rfl rfl rfl rfl) hm
    · exact h.openPulse hm (by rw [hp]; rfl)

theorem Waters.checkClosedPeriod (h : Waters s) (hm : s.cfg.mode = .run) (hd : DosesRun s.wat) :
    Coherent (checkClosedPeriod s) := by
  unfold Machine.checkClosedPeriod
  split
  · exact h.closedPeriodEnds hm hd
  · exact h.coherent hm hd

theorem dosesRun_closePulse (s : State) : DosesRun (closePulse s).wat :=
  ⟨fun _ h => (nomatch h), rfl, fun _ => rfl⟩

theorem Coherent.closePulse (h : Coherent s) (hx : s.rnd.round = .watering) : Coherent (closePulse s) :=
  ((h.waters hx).congr rfl rfl rfl rfl : Waters (Machine.closePulse s)).coherent (h.run_of_watering hx) (dosesRun_closePulse s)

theorem Coherent.flowInDose (h : Coherent s) (hx : s.rnd.round = .watering) (g : Fin 8) : Coherent (flowInDose g s) := by
  have hm := h.run_of_watering hx
  have hd := h.dosesRun hx
  have hc : Waters (countFlow g s) := (h.waters hx).congr rfl rfl rfl rfl
  unfold Machine.flowInDose
  dsimp only
  split
  · exact hc.conflict
  · have hj : Waters (if s.wat.flowWindow.isSome = true then
          { countFlow g s with wat.flowWindow := none, wat.noFlow := 0 } else countFlow g s) ∧
        DosesRun (if s.wat.flowWindow.isSome = true then
          { countFlow g s with wat.flowWindow := none, wat.noFlow := 0 } else countFlow g s).wat ∧
        (if s.wat.flowWindow.isSome = true then
          { countFlow g s with wat.flowWindow := none, wat.noFlow := 0 } else countFlow g s).cfg.mode = .run := by
      split
      · exact ⟨hc.congr rfl rfl rfl rfl, ⟨hd.head, hd.pulse, hd.closed⟩, hm⟩
      · exact ⟨hc, ⟨hd.head, hd.pulse, hd.closed⟩, hm⟩
    generalize (if s.wat.flowWindow.isSome = true then
      { countFlow g s with wat.flowWindow := none, wat.noFlow := 0 } else countFlow g s) = j at hj
    obtain ⟨hj, hjd, hjm⟩ := hj
    unfold closeIfReached
    split
    · exact Waters.checkClosedPeriod (hj.congr rfl rfl rfl rfl) hjm (dosesRun_closePulse j)
    · exact hj.checkClosedPeriod hjm hjd

theorem Coherent.flowPulse (h : Coherent s) : Coherent (flowPulse s) := by
  unfold Machine.flowPulse flowOutsideDose
  split
  · split
    · next hx =>
      split
      · exact h.flowInDose hx _
      · exact h
    · exact h
  · split
    · split
      · next hx => exact (h.waters hx).conflict
      · exact h
    · split
      · exact h
      · exact SameRound.coherent (by constructor <;> first | rfl | exact .refl _ | exact .inl rfl) h
    all_goals exact h

theorem Coherent.flowWindowPasses (h : Coherent s) (hw : s.wat.flowWindow.isSome = true) :
    Coherent (flowWindowPasses s) := by
  have hx := h.wateringTimers (.inl hw)
  have hm := h.run_of_watering hx
  have hd := h.dosesRun hx
  have hwaters := h.waters hx
  have hd' : ∀ {w : Wat}, w.plan = s.wat.plan → w.valve = s.wat.valve → w.openPeriod = s.wat.openPeriod →
      w.closedPeriod = s.wat.closedPeriod → DosesRun w := fun h1 h2 h3 h4 =>
    ⟨by rw [h1, h2]; exact hd.head, by rw [h2, h3]; exact hd.pulse, by rw [h2, h4]; exact hd.closed⟩
  unfold Machine.flowWindowPasses
  dsimp only
  split_ifs
  · exact Waters.checkClosedPeriod (hwaters.congr rfl rfl rfl rfl) hm (hd' rfl rfl rfl rfl)
  · exact Waters.runsDry (hwaters.congr rfl rfl rfl rfl)
  · exact Waters.checkClosedPeriod (hwaters.congr rfl rfl rfl rfl) hm (hd' rfl rfl rfl rfl)

theorem Coherent.probeToWet (h : Coherent s) (g : Fin 8) : Coherent (probeToWet g s) := by
  unfold Machine.probeToWet
  split
  · next hv =>
    have hx := (h.valve g hv).1
    exact Waters.coherent (s := Machine.closePulse { s with wat.closedEarly := s.wat.flowWindow.isSome })
      ((h.waters hx).congr rfl rfl rfl rfl) (h.run_of_watering hx) (dosesRun_closePulse _)
  · exact h

/-! ### The hold -/

theorem Coherent.claimHeld_eq (h : Coherent s) (hp : s.clm.eq.state = .contending) : Coherent (claimHeld .eq s) := by
  have hx := h.eqPending.mp (.inr hp)
  have hm := h.onlyInRun (.inl (.inr hp))
  obtain ⟨hrelay, hlimiter, -, ⟨-, t2, t3, t4, t5⟩, -, hdoses⟩ := h.fits hx
  obtain ⟨hws, hwp, hwh⟩ := h.settled_water (by simp [hx]) (by simp [hx])
  have hheld : Coherent
      { s with
        clm := { s.clm with
                 eq := { s.clm.eq with state := .held, windowTimer := none, yielding := false }
                 history := []
                 lowRun := 0 }
        rnd := { s.rnd with
                 round := .prepare
                 record := some { kind := .equalise, outcome := none, cause := none, openedAt := s.now }
                 demand := true
                 chargerWait := some (s.now + chargerWaitUs)
                 pending := s.clm.eq.share
                 pendingValid := true } } :=
    .of_parts ⟨by simp, fun hy => nomatch hy⟩ hws
      (.settled (.inl rfl) (by simp [claimPending]) hwp hwh (fun _ => ⟨rfl, hm⟩) (fun _ => rfl) fun _ => rfl)
      ⟨⟨rfl, ⟨_, rfl, rfl, rfl⟩, hdoses⟩, hlimiter, hrelay, ⟨rfl, t2, t3, t4, t5⟩⟩
  unfold Machine.claimHeld enterPrepare
  dsimp only
  split
  · exact hheld.enterTransferOut rfl
  · exact hheld

theorem Coherent.claimHeld_water (h : Coherent s) (hp : s.clm.water.state = .contending) :
    Coherent (claimHeld .water s) := by
  have hx := h.waterPending.mp (.inr hp)
  have hm := h.onlyInRun (.inr (.inr (.inl (.inr hp))))
  obtain ⟨hrelay, hlimiter, hdemand, ⟨t1, t2, t3, t4, t5⟩, -, hdoses⟩ := h.fits hx
  unfold Machine.claimHeld enterWatering
  dsimp only
  refine Waters.startGroups _ ⟨rfl, hrelay, hlimiter, hdemand, ⟨t1, t2, t3, t4, t5⟩, ⟨_, rfl, rfl, rfl⟩,
    h.settled_eq (by simp [hx]) (by rw [hx]; rfl), ⟨?_, ?_⟩, rfl⟩ hm
  · simp [State.withMachine, Clm.withMachine]
  · exact fun hy => nomatch hy

theorem Coherent.windowExpires (h : Coherent s) (hw : (s.clm.machine r).windowTimer.isSome = true) :
    Coherent (windowExpires r s) := by
  have hp := (h.sound_machine r).window.mp hw
  unfold Machine.windowExpires
  split
  · cases r
    · exact h.claimHeld_eq hp
    · exact h.claimHeld_water hp
  · exact h.withdrawDue (.inr hp)

/-! ### Loss and yield -/

theorem Coherent.rndYield (h : Coherent s) : Coherent (rndYield s) := by
  unfold Machine.rndYield
  split
  case h_1 hx => exact h.prepareEnds hx _ _
  case h_2 hx => exact h.goBack (.inl hx) _ _
  case h_3 hx => exact h.goBack (.inr hx) _ _
  case h_4 => exact SameRound.coherent (by constructor <;> first | rfl | exact .refl _ | exact .inl rfl) h
  case h_5 hx => exact (h.waters hx).ends _ _
  all_goals exact h

/-- The mark of a yielding claim is a HELD claim's (R131). -/
theorem Coherent.marked (h : Coherent s) (hh : (s.clm.machine r).state = .held) :
    Coherent (s.withMachine r { s.clm.machine r with yielding := true }) := by
  obtain ⟨h1, h2, h3, h4, h5, h6, h7, h8, ⟨h9, h9'⟩, h10, h11, h12, h13, h14, h15, h16, h17, h18, h19, h20, h21, h22, h23,
    h24, h25, h26, h27, h28, h29, h30⟩ := h
  cases r
  · exact ⟨h1, h2, h3, h4, h5, h6, h7, h8, ⟨fun _ => hh, h9'⟩, h10, h11, h12, h13, h14, h15, h16, h17, h18, h19, h20, h21,
      h22, h23, h24, h25, h26, h27, h28, h29, h30⟩
  · exact ⟨h1, h2, h3, h4, h5, h6, h7, h8, ⟨h9, fun _ => hh⟩, h10, h11, h12, h13, h14, h15, h16, h17, h18, h19, h20, h21,
      h22, h23, h24, h25, h26, h27, h28, h29, h30⟩

theorem Coherent.claimOutranked (h : Coherent s) : Coherent (claimOutranked r s) := by
  unfold Machine.claimOutranked
  dsimp only
  split
  · next hq =>
    have hx := (h.pending_iff r).mp (.inl hq)
    obtain ⟨c, he, hc⟩ := h.withdrawBackOff (.inl hq)
    rw [he, backToDue_eq (by cases r <;> exact hx)]
    exact h.unclaimed hx hc (.inr (by cases r <;> rfl))
  · next hq => exact h.withdrawDue (.inr hq)
  · next hh =>
    split
    · exact h
    · exact (h.marked hh).rndYield
  all_goals exact h

theorem Coherent.peerUpdated (h : Coherent s) (before after : PeerRecord) : Coherent (peerUpdated before after s) := by
  have htable : Coherent { s with ptb := putPeer after s.ptb } :=
    SameRound.coherent (by constructor <;> first | rfl | exact .refl _ | exact .inl rfl) h
  have heq : Coherent (testEqUpdate before after { s with ptb := putPeer after s.ptb }) := by
    unfold testEqUpdate
    split
    · split
      · exact htable.claimOutranked
      · exact htable
    · exact htable
  unfold Machine.peerUpdated testWaterUpdate
  split
  · split
    · exact heq.claimOutranked
    · exact heq
  · exact heq

end Sys2Proof.Machine
end

section
/-! SUPPORT. Every command keeps a coherent round coherent: the line left, the panel, the edges, the sample set. -/

namespace Sys2Proof.Machine

open Sys2Proof

variable {s t u : State} {r : Resource}

/-! ### The line left -/

theorem LimiterOff.congr (h : LimiterOff s) (hrnd : t.rnd = s.rnd) (hpwm : t.fld.pwmDuty = s.fld.pwmDuty) : LimiterOff t :=
  ⟨hrnd ▸ h.1, hpwm.trans h.2⟩

theorem OnFloat.congr {b : Bool} (h : OnFloat s b) (hrnd : t.rnd = s.rnd) (hwat : t.wat = s.wat)
    (hpwm : t.fld.pwmDuty = s.fld.pwmDuty) : OnFloat t b :=
  ⟨hrnd ▸ h.relay, h.limiter.congr hrnd hpwm, hrnd ▸ h.demand, hrnd ▸ h.timers, hrnd ▸ h.record, hwat ▸ h.doses⟩

theorem RecordOpen.congr {k : RoundKind} {b : Bool} (h : RecordOpen k b s) (hrnd : t.rnd = s.rnd) : RecordOpen k b t := by
  unfold RecordOpen
  rw [hrnd]
  exact h

theorem Equalising.congr {b : Bool} (h : Equalising s b) (hrnd : t.rnd = s.rnd) (hwat : t.wat = s.wat) : Equalising t b :=
  ⟨hrnd ▸ h.demand, h.record.congr hrnd, hwat ▸ h.doses⟩

/-- What fits a round is said of RND, its watering side and the limiter alone. -/
theorem RoundFits.congr {x : RoundState} (h : RoundFits s x) (hrnd : t.rnd = s.rnd) (hwat : t.wat = s.wat)
    (hpwm : t.fld.pwmDuty = s.fld.pwmDuty) : RoundFits t x := by
  cases x with
  | float | due | claiming | waterDue | waterClaiming | rest => exact OnFloat.congr h hrnd hwat hpwm
  | inhibited => exact ⟨h.1.congr hrnd hwat hpwm, hrnd ▸ h.2⟩
  | prepare => exact ⟨h.1.congr hrnd hwat, h.2.1.congr hrnd hpwm, hrnd ▸ h.2.2⟩
  | transferOut => exact ⟨h.1.congr hrnd hwat, h.2.1.congr hrnd hpwm, hrnd ▸ h.2.2⟩
  | equalising | soak =>
    refine ⟨h.1.congr hrnd hwat, ?_, hrnd ▸ h.2.2⟩
    rw [hrnd, hpwm]
    exact h.2.1
  | transferBack => exact ⟨h.1.congr hrnd hwat, h.2.1.congr hrnd hpwm, hrnd ▸ h.2.2⟩
  | stuck => exact ⟨h.1.congr hrnd hwat, h.2.1.congr hrnd hpwm, hrnd ▸ h.2.2⟩
  | watering =>
    obtain ⟨hr, hl, hd, ht, hrec, hdoses⟩ := h
    exact ⟨hrnd ▸ hr, hl.congr hrnd hpwm, hrnd ▸ hd, hrnd ▸ ht, hrec.congr hrnd, hwat ▸ hdoses⟩

/-- A round that has left work: over, on the way back with float commanded, or stuck. -/
structure WorkLeft (s : State) : Prop where
  fits : RoundFits s s.rnd.round
  waiting : s.rnd.currentWait.isSome = false
  round : RoundOver s.rnd.round ∨ s.rnd.round = .transferBack ∨ s.rnd.round = .stuck

theorem LeavesWork.workLeft {c : Clm} {mode : NodeMode} (h : LeavesWork c mode t) : WorkLeft t :=
  ⟨h.fits, h.waiting, h.eq.elim (fun h => .inr h.1) (fun h => .inl h.1)⟩

theorem OnFloat.workLeft {x : RoundState} (h : OnFloat s (decide (x = .rest))) (hx : RoundOver x)
    (hl : x = .inhibited → s.rnd.inhibit = true) : WorkLeft { s with rnd.round := x } := by
  obtain ⟨h1, h2, h3, ⟨t1, t2, t3, t4, t5⟩, h5, h6⟩ := h
  refine ⟨?_, t4, .inl hx⟩
  obtain rfl | rfl | rfl := hx
  · exact ⟨h1, h2, h3, ⟨t1, t2, t3, t4, t5⟩, h5, h6⟩
  · exact ⟨h1, h2, h3, ⟨t1, t2, t3, t4, t5⟩, h5, h6⟩
  · exact ⟨⟨h1, h2, h3, ⟨t1, t2, t3, t4, t5⟩, h5, h6⟩, hl rfl⟩

theorem Waters.workLeft (h : Waters s) (o : RoundOutcome) (cause : Option AbortCause) : WorkLeft (wateringEnds o cause s) := by
  have hc := h.ends o cause
  have hover : RoundOver (wateringEnds o cause s).rnd.round := by
    obtain ⟨q, hq, -, hopen⟩ := h.record
    rw [wateringEnds_eq hq (Option.isNone_iff_eq_none.mp (Option.isSome_eq_false_iff.mp hopen))]
    by_cases hi : s.rnd.inhibit = true
    · exact .inr (.inr (if_pos hi))
    · exact .inl (if_neg hi)
  refine ⟨hc.roundFits, ?_, .inl hover⟩
  have hb : (wateringEnds o cause s).rnd.round ≠ .transferBack := by
    obtain hx | hx | hx := hover <;> rw [hx] <;> exact RoundState.noConfusion
  exact (hc.timersRun hb).current

/-- RND at the change to ISOLATED or SILENT: no work is left (R71, R158, R175). -/
theorem workLeft_roundLeavesLine (hfits : RoundFits s s.rnd.round) (hwaters : s.rnd.round = .watering → Waters s)
    (cause : AbortCause) : WorkLeft (roundLeavesLine cause s) := by
  unfold roundLeavesLine
  cases hx : s.rnd.round <;> rw [hx] at hfits <;> dsimp only
  case due | waterDue | claiming | waterClaiming => exact OnFloat.workLeft (x := .float) hfits (.inl rfl) (by simp)
  case float => exact ⟨by rw [hx]; exact hfits, hfits.timers.current, .inl (.inl hx)⟩
  case rest => exact ⟨by rw [hx]; exact hfits, hfits.timers.current, .inl (.inr (.inl hx))⟩
  case inhibited => exact ⟨by rw [hx]; exact hfits, hfits.1.timers.current, .inl (.inr (.inr hx))⟩
  case stuck =>
    obtain ⟨he, hl, hr, ht, hi⟩ := hfits
    exact ⟨by rw [hx]; exact ⟨he, hl, hr, ht, hi⟩, ht.current, .inr (.inr hx)⟩
  case prepare =>
    obtain ⟨he, hl, hr, ht⟩ := hfits
    exact (leavesWork_prepareEnds he hl hr ht _ _).workLeft
  case transferOut =>
    obtain ⟨⟨hd, hr, hw⟩, -, ht⟩ := hfits
    exact (leavesWork_backWithCheck (s := { s with rnd.deferred := none }) ⟨hd, hr, hw⟩ ht.charger ht.rest _ _ _).workLeft
  case equalising | soak =>
    obtain ⟨he, -, ht⟩ := hfits
    exact (leavesWork_commandFloatWithWindow (comesBack_enterTransferBack he ht.charger ht.rest _ _) rfl
      ht.recovery).workLeft
  case transferBack =>
    obtain ⟨he, hl, ht⟩ := hfits
    split
    · next hw =>
      obtain ht | ⟨-, ht | ht⟩ := ht
      · exact (leavesWork_commandFloatWithWindow ⟨he, hl, ht.charger, ht.rest⟩ hx ht.recovery).workLeft
      all_goals exact Bool.noConfusion (ht.current.symm.trans hw)
    · next hw => exact ⟨by rw [hx]; exact ⟨he, hl, ht⟩, by simpa using hw, .inr (.inl hx)⟩
  case watering => exact (hwaters hx).workLeft _ _

theorem ClaimMachine.settled_drop (m : ClaimMachine) : m.drop.Settled :=
  ⟨⟨by simp [ClaimMachine.drop], fun h => nomatch h⟩, by simp [ClaimMachine.drop, claimPending], by simp [ClaimMachine.drop]⟩

/-- With the claims dropped, a round that has left work is coherent in every mode (R138). -/
theorem WorkLeft.coherent (h : WorkLeft s) (hc : NoClaims s.clm) : Coherent s := by
  obtain ⟨⟨hes, hep, heh⟩, ⟨hws, hwp, hwh⟩⟩ := hc
  have hx : inEqualise s.rnd.round = true ∨ RoundOver s.rnd.round := by
    obtain hx | hx | hx := h.round
    · exact .inr hx
    · exact .inl (by rw [hx]; rfl)
    · exact .inl (by rw [hx]; rfl)
  have hwork : workingEqualise s.rnd.round = false := by
    obtain (hx | hx | hx) | hx | hx := h.round <;> rw [hx] <;> rfl
  refine .of_parts hes hws (.settled hx hep hwp hwh (fun hh => absurd hh heh) ?_ (isSome_elim h.waiting)) h.fits
  rw [hwork]
  exact fun hw => nomatch hw

theorem Coherent.leaveLine (h : Coherent s) (mode : NodeMode) (cause : AbortCause) : Coherent (leaveLine mode cause s) := by
  unfold Machine.leaveLine
  dsimp only
  generalize hq : ({ s with cfg.mode := mode, cfg.joiningTimer := none, clm.statusTimer := none, lin.attempt := none,
                            lin.recovering := false, lin.isolationTimer := none } : State) = q
  have hfits : RoundFits q q.rnd.round := by
    subst hq
    exact h.roundFits.congr rfl rfl rfl
  have hwaters : q.rnd.round = .watering → Waters q := by
    subst hq
    exact fun hx => (h.waters hx).congr rfl rfl rfl rfl
  have hleft := workLeft_roundLeavesLine hfits hwaters cause
  generalize roundLeavesLine cause q = v at hleft
  have hdropped : WorkLeft (dropClaims v) := ⟨hleft.fits.congr rfl rfl rfl, hleft.waiting, hleft.round⟩
  exact SameRound.coherent (s := dropClaims v) (by constructor <;> first | rfl | exact .refl _ | exact .inl rfl)
    (hdropped.coherent ⟨ClaimMachine.settled_drop _, ClaimMachine.settled_drop _⟩)

/-! ### The panel -/

theorem Coherent.requestStatus (h : Coherent s) : Coherent (requestStatus s) := by
  rw [requestStatus_eq]
  exact SameRound.coherent (by constructor <;> first | rfl | exact .refl _ | exact .inl rfl) h

theorem Coherent.holdStarts (h : Coherent s) : Coherent (holdStarts s) := (h.holdMachine .eq).holdMachine .water

theorem Coherent.startBackOff (h : Coherent s) (r : Resource) : Coherent (startBackOff r s) :=
  SameRound.coherent (by cases r <;> constructor <;> first | rfl | exact .refl _ | exact .inl rfl) h

/-- A waiting string sent to FLOAT (R135). -/
theorem Coherent.dueToFloat (h : Coherent s) (hx : s.rnd.round = .due ∨ s.rnd.round = .waterDue) :
    Coherent { s with rnd.round := .float } := by
  have hf : OnFloat s false := by obtain hx | hx := hx <;> exact h.fits hx
  obtain ⟨h1, h2, h3, ⟨t1, t2, t3, t4, t5⟩, h5, h6⟩ := hf
  exact .of_unclaimed (h.noClaims (hx.elim (fun hx => .inr (.inl hx)) (fun hx => .inr (.inr (.inl hx))))) (.inl rfl)
    ⟨h1, h2, h3, ⟨t1, t2, t3, t4, t5⟩, h5, h6⟩ (by simp) (by simp)

theorem Coherent.stopActs (h : Coherent s) : Coherent (stopActs s) := by
  unfold Machine.stopActs
  split
  case h_1 hx => exact (h.dueToFloat (.inl hx)).startBackOff .eq
  case h_2 hx => exact (h.dueToFloat (.inr hx)).startBackOff .water
  case h_3 hx => exact h.stopClaim (r := .eq) hx
  case h_4 hx => exact h.stopClaim (r := .water) hx
  case h_5 hx => split <;> [exact h.prepareEnds hx _ _; exact h]
  case h_6 hx => split <;> [exact h.goBack (.inl hx) _ _; exact h]
  case h_7 hx => split <;> [exact h.goBack (.inr hx) _ _; exact h]
  case h_8 hx =>
    split
    · exact SameRound.coherent (by constructor <;> first | rfl | exact .refl _ | exact .inl rfl) h
    · exact h
  case h_9 hx => split <;> [exact (h.waters hx).ends _ _; exact h]
  all_goals exact h

/-- The inhibit latch set, or cleared outside STUCK and INHIBITED. -/
theorem Coherent.latch (h : Coherent s) {b : Bool} (hb : s.rnd.round = .stuck ∨ s.rnd.round = .inhibited → b = true) :
    Coherent { s with rnd.inhibit := b } := by
  obtain ⟨h1, h2, h3, h4, h5, h6, h7, h8, h9, h10, h11, h12, h13, h14, h15, h16, h17, h18, h19, h20, -, h22, h23, h24,
    h25, h26, h27, h28, h29, h30⟩ := h
  exact ⟨h1, h2, h3, h4, h5, h6, h7, h8, h9, h10, h11, h12, h13, h14, h15, h16, h17, h18, h19, h20, hb, h22, h23,
    h24, h25, h26, h27, h28, h29, h30⟩

theorem Coherent.clearLatches (h : Coherent s) : Coherent (clearLatches s) := by
  unfold Machine.clearLatches
  dsimp only
  split_ifs with hi hs
  · obtain ⟨⟨h1, h2, h3, ⟨t1, t2, t3, t4, t5⟩, h5, h6⟩, -⟩ := h.fits hi
    exact .of_unclaimed (h.noClaims (.inr (.inr (.inr (.inr hi))))) (.inl rfl)
      ⟨h1, h2, h3, ⟨t1, t2, t3, t4, t5⟩, h5, h6.1, h6.2, h6.3, h6.4, h6.5, h6.6, h6.7, h6.8⟩ (by simp) (by simp)
  · obtain ⟨⟨hd, hr, hw⟩, hl, -, ht, -⟩ := h.fits hs
    refine h.leavesWork (by rw [hs]; rfl) (leavesWork_commandFloatWithCheck
      (s := enterTransferBack { s with rnd.inhibit := false, wat.dry := false, wat.dryTimer := none })
      ⟨⟨hd, hr, ?_⟩, ⟨rfl, rfl⟩, ht.charger, ht.rest⟩ rfl false)
    exact ⟨hw.1, hw.2, hw.3, hw.4, hw.5, hw.6, hw.7, hw.8⟩
  · exact SameRound.coherent (s := { s with rnd.inhibit := false })
      (by constructor <;> first | rfl | exact .refl _ | exact .inl rfl) (h.latch fun hx => absurd hx (not_or.mpr ⟨hs, hi⟩))

/-! ### The edges -/

theorem Coherent.fbToEqualise (h : Coherent s) : Coherent (fbToEqualise s) := by
  have hnc := h.noClaims
  unfold Machine.fbToEqualise
  split
  case h_1 hx =>
    split
    · split
      · exact h.moveOutFails hx
      · exact h.moveOutSucceeds hx
    · exact h
  case h_2 hx =>
    obtain ⟨⟨hd, hr, hw⟩, -, -, ht⟩ := h.fits hx
    exact h.leavesWork (by rw [hx]; rfl) (leavesWork_backWithCheck
      (s := { s with rnd.inhibit := true, rnd.chargerWait := none }) ⟨hd, hr, hw⟩ rfl ht.rest _ _ _)
  case h_3 hx => exact coherent_uncommanded (hnc (.inl hx)) (h.fits hx : OnFloat s false)
  case h_4 hx => exact coherent_uncommanded (hnc (.inr (.inl hx))) (h.fits hx : OnFloat s false)
  case h_5 hx => exact coherent_uncommanded (hnc (.inr (.inr (.inr (.inl hx))))) (h.fits hx : OnFloat s true)
  case h_6 hx => exact coherent_uncommanded (hnc (.inr (.inr (.inl hx)))) (h.fits hx : OnFloat s false)
  case h_7 hx => exact h.uncommanded_withdraw (r := .eq) hx
  case h_8 hx => exact h.uncommanded_withdraw (r := .water) hx
  case h_9 | h_10 => exact h.latch fun _ => rfl
  all_goals exact h

theorem Coherent.fbToFloat (h : Coherent s) : Coherent (fbToFloat s) := by
  unfold Machine.fbToFloat
  split
  case h_1 hx => exact h.backWithCheck (.inl hx) _
  case h_2 hx => exact h.backWithCheck (.inr hx) _
  case h_3 hx =>
    split
    · next d hf =>
      have hrun : s.rnd.transferFrom.isSome = true := by rw [hf]; rfl
      split
      · exact h.enterStuck hx (.inl hrun)
      · obtain ⟨hr, hw⟩ := h.floatCommanded hx (.inl hrun)
        obtain ⟨⟨hd, hrec, hdo⟩, hl, hc, hre⟩ := h.comesBack hx
        have hcheck : s.rnd.recoveryCheck.isSome = false := by
          obtain ⟨-, -, ht | ⟨-, ht | ht⟩⟩ := h.fits hx
          · exact ht.recovery
          · exact ht.recovery
          · exact Bool.noConfusion (ht.transfer.symm.trans hrun)
        exact h.leavesWork (by rw [hx]; rfl) (leavesWork_equaliseEnd (s := { s with rnd.transferFrom := none })
          ⟨⟨hd, hrec, hdo⟩, hl, hc, hre⟩ hr rfl hcheck hw)
    · next hc => exact h.recoverySucceeds hx (by rw [hc]; rfl) _
    · split
      · obtain ⟨⟨hd, hrec, hdo⟩, hl, hc, hre⟩ := h.comesBack hx
        exact h.leavesWork (by rw [hx]; rfl) (leavesWork_commandFloatWithCheck (s := { s with rnd.inhibit := true })
          ⟨⟨hd, hrec, hdo⟩, hl, hc, hre⟩ hx false)
      · exact h
  all_goals exact h

theorem Coherent.levelEdge (h : Coherent s) (i : LevelInput) (toActive : Bool) : Coherent (levelEdge i toActive s) := by
  unfold Machine.levelEdge
  split
  · exact h.fbToEqualise
  · exact h.fbToFloat
  · unfold chargerBecomesReady
    split
    · next hx => exact h.enterTransferOut hx
    · exact h
  · unfold chargerLost
    split
    case h_1 hx => exact h.goBack (.inl hx) _ _
    case h_2 hx => exact h.goBack (.inr hx) _ _
    case h_3 => exact SameRound.coherent (by constructor <;> first | rfl | exact .refl _ | exact .inl rfl) h
    all_goals exact h
  · exact h.probeToWet _
  · exact h

end Sys2Proof.Machine
end

section
/-! SUPPORT. The sample set and the completed attempt keep a coherent round coherent, and with them every command. -/

namespace Sys2Proof.Machine

open Sys2Proof

variable {s t u : State} {r : Resource}

/-! ### The sample set -/

theorem sameRound_conditioned (words : List ScanWord) (s : State) : SameRound s (conditioned words s) := by
  obtain ⟨q, h⟩ := conditioned_form (s := s) words
  rw [h]
  constructor <;> first | rfl | exact .refl _ | exact .inl rfl

/-- A string on float goes from one state without a claim to another (R67 to R69). -/
theorem Coherent.toUnclaimed (h : Coherent s) (hx : Unclaimed s.rnd.round) (hf : OnFloat s false) {y : RoundState}
    (hy : y = .float ∨ (y = .due ∨ y = .waterDue) ∧ s.cfg.mode = .run) : Coherent { s with rnd.round := y } := by
  obtain ⟨h1, h2, h3, ⟨t1, t2, t3, t4, t5⟩, h5, h6⟩ := hf
  refine .of_unclaimed (h.noClaims hx) ?_ ⟨h1, h2, h3, ?_, h5, h6⟩ ?_ ?_
  · obtain rfl | ⟨rfl | rfl, -⟩ := hy <;> simp [Unclaimed]
  · obtain rfl | ⟨rfl | rfl, -⟩ := hy <;> exact ⟨t1, t2, t3, t4, t5⟩
  · obtain rfl | ⟨-, hm⟩ := hy
    · simp
    · exact fun _ => hm
  · obtain rfl | ⟨rfl | rfl, -⟩ := hy <;> simp

theorem Coherent.makeClaim (h : Coherent s) (hx : s.rnd.round = dueState r) (n k : Nat) :
    Coherent { makeClaim r n k s with rnd.round := claimingState r } := by
  cases r
  · have hx : s.rnd.round = .due := hx
    have hm : s.cfg.mode = .run := h.onlyInRun (by simp [hx])
    obtain ⟨h1, h2, h3, ⟨t1, t2, t3, t4, t5⟩, h5, h6⟩ := h.fits hx
    obtain ⟨-, hws, hwp, hwh⟩ := h.noClaims (.inr (.inl hx))
    exact .of_onFloat ⟨by simp [Machine.makeClaim, Clm.withMachine], fun hy => nomatch hy⟩ hws
      ⟨iff_of_true (.inl rfl) rfl, iff_of_false hwp (by simp [claimingState]), fun hh => (nomatch hh),
        fun hw => (nomatch hw), iff_of_false hwh (by simp [claimingState]), fun _ => hm, isSome_elim t4⟩
      ⟨h1, h2, h3, ⟨t1, t2, t3, t4, t5⟩, h5, h6⟩ rfl (by simp [claimingState]) (by simp [claimingState])
  · have hx : s.rnd.round = .waterDue := hx
    have hm : s.cfg.mode = .run := h.onlyInRun (by simp [hx])
    obtain ⟨h1, h2, h3, ⟨t1, t2, t3, t4, t5⟩, h5, h6⟩ := h.fits hx
    obtain ⟨⟨hes, hep, heh⟩, -⟩ := h.noClaims (.inr (.inr (.inl hx)))
    exact .of_onFloat hes ⟨by simp [Machine.makeClaim, Clm.withMachine], fun hy => nomatch hy⟩
      ⟨iff_of_false hep (by simp [claimingState]), iff_of_true (.inl rfl) rfl, fun hh => absurd hh heh,
        fun hw => (nomatch hw), iff_of_false (fun hh => nomatch hh) (by simp [claimingState]), fun _ => hm, isSome_elim t4⟩
      ⟨h1, h2, h3, ⟨t1, t2, t3, t4, t5⟩, h5, h6⟩ rfl (by simp [claimingState]) (by simp [claimingState])

/-- The regulator sets the duty (R154, R186). -/
theorem Coherent.setDuty (h : Coherent s) (hx : s.rnd.round = .equalising ∨ s.rnd.round = .soak) (d : Nat) :
    Coherent (setDuty s d) := by
  have hw : workingEqualise s.rnd.round = true := by obtain hx | hx := hx <;> rw [hx] <;> rfl
  have hf : RoundFits s .equalising := hx.elim (fun hx => h.fits hx) (fun hx => (h.fits hx : RoundFits s .soak))
  obtain ⟨⟨hd, hr, hdo⟩, -, ht⟩ := hf
  have hfits : RoundFits (Machine.setDuty s d) .equalising := by
    refine ⟨⟨hd, hr, hdo⟩, fun hp hz => ?_, ⟨ht.1, ht.2, ht.3, ht.4, ht.5⟩⟩
    have hz : d = 0 := hz
    exact hp (by simp [Machine.setDuty, hz])
  refine h.stillHeld hw (.refl _) (.refl _) rfl (inEqualise_of_working hw) ?_
  show RoundFits _ s.rnd.round
  obtain hx | hx := hx <;> rw [hx] <;> exact hfits

theorem Coherent.equaliseSample (h : Coherent s) (hx : s.rnd.round = .equalising ∨ s.rnd.round = .soak) :
    Coherent (equaliseSample s) := by
  have hw : workingEqualise s.rnd.round = true := by obtain hx | hx := hx <;> rw [hx] <;> rfl
  have hf : RoundFits s .equalising := hx.elim (fun hx => h.fits hx) (fun hx => (h.fits hx : RoundFits s .soak))
  obtain ⟨⟨hd, hr, hdo⟩, hl, ⟨t1, t2, t3, t4, t5⟩⟩ := hf
  have hband : Coherent (stepBand s) ∧ ((stepBand s).rnd.round = .equalising ∨ (stepBand s).rnd.round = .soak) := by
    unfold stepBand
    cases s.mon.band with
    | true => exact ⟨h.stillHeld hw (.refl _) (.refl _) rfl rfl ⟨⟨hd, hr, hdo⟩, hl, ⟨t1, t2, t3, t4, t5⟩⟩, .inr rfl⟩
    | false => exact ⟨h.stillHeld hw (.refl _) (.refl _) rfl rfl ⟨⟨hd, hr, hdo⟩, hl, ⟨t1, t2, t3, t4, t5⟩⟩, .inl rfl⟩
  unfold Machine.equaliseSample
  split_ifs
  · exact h.goBack hx _ _
  · exact h.goBack hx _ _
  · dsimp only
    split
    · exact hband.1.goBack hband.2 _ _
    · have hp : Coherent (applyPending (stepBand s)) ∧
          ((applyPending (stepBand s)).rnd.round = .equalising ∨ (applyPending (stepBand s)).rnd.round = .soak) := by
        unfold applyPending
        split
        · exact ⟨SameRound.coherent (by constructor <;> first | rfl | exact .refl _ | exact .inl rfl) hband.1, hband.2⟩
        · exact hband
      exact hp.1.setDuty hp.2 _

theorem Coherent.reduceShare (h : Coherent s) (c : Channel) : Coherent (reduceShare c s) := by
  have hsame (v : State) (hv : SameRound s v) : Coherent v := hv.coherent h
  unfold Machine.reduceShare
  split_ifs
  · dsimp only
    split_ifs
    · exact (hsame _ (by constructor <;> first | rfl | exact .refl _ | exact ⟨rfl, rfl, rfl⟩ | exact .inl rfl)).requestStatus
    · exact hsame _ (by constructor <;> first | rfl | exact .refl _ | exact .inl rfl)
  · exact h

theorem Coherent.roundSample (h : Coherent s) : Coherent (roundSample s) := by
  unfold Machine.roundSample
  split
  case h_1 hx =>
    unfold floatSample
    split_ifs with hdue hwater
    · rw [Bool.and_eq_true, fitToEqualise_iff] at hdue
      exact h.toUnclaimed (.inl hx) (h.fits hx) (.inr ⟨.inl rfl, hdue.2.mode⟩)
    · rw [Bool.and_eq_true, fitToWater_iff] at hwater
      exact h.toUnclaimed (.inl hx) (h.fits hx) (.inr ⟨.inr rfl, hwater.2.mode⟩)
    · exact h
  case h_2 hx =>
    unfold dueSample
    split_ifs
    · exact h.makeClaim (r := .eq) hx _ _
    · exact h
    · exact h.dueToFloat (.inl hx)
  case h_3 hx =>
    unfold waterDueSample
    split_ifs
    · exact h.makeClaim (r := .water) hx _ _
    · exact h
    · exact h.dueToFloat (.inr hx)
  case h_4 hx => unfold claimingSample; split <;> [exact h; exact h.withdrawFloat (r := .eq) hx]
  case h_5 hx => unfold waterClaimingSample; split <;> [exact h; exact h.withdrawFloat (r := .water) hx]
  case h_6 hx =>
    unfold prepareSample
    split_ifs
    · exact h.prepareEnds hx _ _
    · exact h.prepareEnds hx _ _
    · exact h
  case h_7 hx => exact h.equaliseSample (.inl hx)
  case h_8 hx => exact h.equaliseSample (.inr hx)
  case h_9 hx =>
    unfold backSample
    split
    · next hw =>
      simp only [Bool.and_eq_true] at hw
      exact h.commandFloatWithWindow hw.1.1
    · exact h
  all_goals exact h

theorem Coherent.deliverSampleSet (h : Coherent s) (words : List ScanWord) : Coherent (deliverSampleSet words s) :=
  (((sameRound_conditioned words s).coherent h).roundSample).reduceShare _

/-! ### Completed attempts -/

/-- A claim machine in another state of the same kind: pending or not, HELD or not. -/
theorem Coherent.withClaim (h : Coherent s) {m : ClaimMachine} (hm : m.Sound)
    (hp : claimPending m.state ↔ claimPending (s.clm.machine r).state)
    (hh : m.state = .held ↔ (s.clm.machine r).state = .held) : Coherent (s.withMachine r m) := by
  obtain ⟨hes, hws⟩ := h.sound
  obtain ⟨c1, c2, c3, c4, c5, c6, c7⟩ := h.claimsKept
  cases r
  · have hp : claimPending m.state ↔ claimPending s.clm.eq.state := hp
    have hh : m.state = .held ↔ s.clm.eq.state = .held := hh
    refine .of_parts hm hws ⟨hp.trans c1, c2, fun k => c3 (hh.mp k), fun k => hh.mpr (c4 k), c5, fun k => c6 ?_,
      fun k => hh.mpr (c7 k)⟩ (h.roundFits.congr rfl rfl rfl)
    rw [← hp, ← hh]
    exact k
  · have hp : claimPending m.state ↔ claimPending s.clm.water.state := hp
    have hh : m.state = .held ↔ s.clm.water.state = .held := hh
    refine .of_parts hes hm ⟨c1, hp.trans c2, c3, c4, hh.trans c5, fun k => c6 ?_, c7⟩ (h.roundFits.congr rfl rfl rfl)
    rw [← hp, ← hh]
    exact k

theorem Coherent.noticeSent (h : Coherent s) {k : NoticeKey} (hk : k = .recovery → s.cfg.mode ≠ .run) :
    Coherent (noticeSent k s) := by
  unfold Machine.noticeSent
  split
  · next r tag =>
    unfold releaseCompleted
    dsimp only
    split
    · next hq =>
      have hs := h.sound_machine r
      refine h.withClaim ⟨?_, ?_⟩ ?_ ?_
      · have hw := hs.window
        rw [hq.1] at hw
        simpa using hw
      · have hy := hs.yielding
        rw [hq.1] at hy
        exact fun hy' => absurd (hy hy') (by simp)
      · rw [hq.1]
        simp [claimPending]
      · rw [hq.1]
        simp
    · exact h
  · next r tag =>
    have hs := h.sound_machine r
    unfold claimCompleted
    dsimp only
    split_ifs with hq hn
    · refine h.withClaim ⟨by simp, ?_⟩ ?_ ?_
      · have hy := hs.yielding
        rw [hq.1] at hy
        exact fun hy' => absurd (hy hy') (by simp)
      · rw [hq.1]
        simp [claimPending]
      · rw [hq.1]
        simp
    · refine (h.withClaim ⟨?_, ?_⟩ ?_ ?_).startBackOff r
      · have hw := hs.window
        rw [hn] at hw
        simpa using hw
      · have hy := hs.yielding
        rw [hn] at hy
        exact fun hy' => absurd (hy hy') (by simp)
      · rw [hn]
        simp [claimPending]
      · rw [hn]
        simp
    · exact h
  · exact SameRound.coherent (by constructor <;> first | rfl | exact .refl _ | exact .inl rfl) h
  · exact SameRound.coherent (by constructor <;> first | rfl | exact .refl _ | exact .inl rfl) h
  · exact SameRound.coherent (by constructor <;> first | rfl | exact .refl _ | exact .inr (hk rfl)) h

/-! ### Frames heard -/

theorem peerReader_induction {P : State → Prop} (n : Notice) (hs : P s) (hrenewed : ∀ q, P (s.withRecord q))
    (hupdated : ∀ before after, P (peerUpdated before after s)) :
    P (readStatus n s) ∧ P (readClaim n s) ∧ P (readRelease n s) ∧ P (readReport n s) := by
  refine ⟨?_, ?_, ?_, ?_⟩
  · unfold readStatus
    split
    · dsimp only
      split
      · exact hupdated _ _
      · exact hs
    all_goals exact hs
  · unfold readClaim
    split
    · dsimp only
      split
      · exact hupdated _ _
      · exact hs
    all_goals exact hs
  · unfold readRelease
    split
    · dsimp only
      split
      · exact hupdated _ _
      · exact hs
    all_goals exact hs
  · unfold readReport
    split
    · exact hrenewed _
    all_goals exact hs

theorem readDirective_induction {P : State → Prop} {act : Nat → State → State} (d : Directive) (n : Notice) (hs : P s)
    (hact : ∀ m, P (act m s)) : P (readDirective d act n s) := by
  unfold readDirective
  split
  · split
    · exact hact _
    · exact hs
  all_goals exact hs

/-- The effects of the six directives. -/
structure ActsKeep (P : State → Prop) (s : State) : Prop where
  hold : ∀ m, P (actHold m s)
  stop : ∀ m, P (actStop m s)
  forceEq : ∀ m, P (actForceEq m s)
  forceWater : ∀ m, P (actForceWater m s)
  clear : ∀ m, P (actClear m s)
  query : ∀ m, P (actQuery m s)

/-- A property that the updates of a record and the directives give holds after the reader of every frame command. -/
theorem frameReader_induction {P : State → Prop} {c : Instr} {after : Nat} {frame : List Byte}
    (hc : FrameCommand c after frame) (n : Notice) (hs : P s) (hrenewed : ∀ q, P (s.withRecord q))
    (hupdated : ∀ before after, P (peerUpdated before after s)) (hacts : ActsKeep P s) : P (frameReader c n s) := by
  obtain ⟨h1, h2, h3, h4⟩ := peerReader_induction n hs hrenewed hupdated
  obtain rfl | rfl | rfl | rfl | rfl | rfl | rfl | rfl | rfl | rfl := hc
  · exact h1
  · exact h2
  · exact h3
  · exact h4
  · exact readDirective_induction _ n hs hacts.hold
  · exact readDirective_induction _ n hs hacts.stop
  · exact readDirective_induction _ n hs hacts.forceEq
  · exact readDirective_induction _ n hs hacts.forceWater
  · exact readDirective_induction _ n hs hacts.clear
  · exact readDirective_induction _ n hs hacts.query

theorem SameRound.of_same (hclm : t.clm.eq = s.clm.eq ∧ t.clm.water = s.clm.water) (hrnd : t.rnd = s.rnd)
    (hwat : t.wat = s.wat) (hpwm : t.fld.pwmDuty = s.fld.pwmDuty) (hmode : t.cfg.mode = s.cfg.mode ∨ s.cfg.mode ≠ .run) :
    SameRound s t := by
  obtain ⟨he, hw⟩ := hclm
  constructor <;> first | exact hpwm | exact hmode | (rw [he]; exact .refl _) | (rw [hw]; exact .refl _) | rw [hrnd] | rw [hwat]

/-- The same claims, round, watering side, limiter and mode. -/
theorem Coherent.congr (h : Coherent s) (hclm : t.clm.eq = s.clm.eq ∧ t.clm.water = s.clm.water) (hrnd : t.rnd = s.rnd)
    (hwat : t.wat = s.wat) (hpwm : t.fld.pwmDuty = s.fld.pwmDuty) (hmode : t.cfg.mode = s.cfg.mode ∨ s.cfg.mode ≠ .run) :
    Coherent t :=
  (SameRound.of_same hclm hrnd hwat hpwm hmode).coherent h

theorem Coherent.actsKeep (h : Coherent s) : ActsKeep Coherent s where
  hold m := by
    unfold actHold
    dsimp only
    split_ifs
    · exact Coherent.requestStatus (h.congr ⟨rfl, rfl⟩ rfl rfl rfl (.inl rfl))
    · exact h
    · exact Coherent.requestStatus (h.congr ⟨rfl, rfl⟩ rfl rfl rfl (.inl rfl))
    · exact Coherent.requestStatus (h.holdStarts.congr ⟨rfl, rfl⟩ rfl rfl rfl (.inl rfl))
    · exact h
  stop _ := by unfold actStop; split <;> [exact h.stopActs.requestStatus; exact h]
  forceEq _ := by
    unfold actForceEq
    split <;> [exact Coherent.requestStatus (h.congr ⟨rfl, rfl⟩ rfl rfl rfl (.inl rfl)); exact h]
  forceWater _ := by
    unfold actForceWater
    split <;> [exact Coherent.requestStatus (h.congr ⟨rfl, rfl⟩ rfl rfl rfl (.inl rfl)); exact h]
  clear _ := by unfold actClear; split <;> [exact h.clearLatches.requestStatus; exact h]
  query _ := by
    unfold actQuery requestReport
    split <;> [exact h.congr ⟨rfl, rfl⟩ rfl rfl rfl (.inl rfl); exact h]

theorem coherent_hearFrame {c : Instr} {after : Nat} {frame : List Byte} (hc : FrameCommand c after frame)
    (h : Coherent s) : Coherent (hearFrame frame (frameReader c) s) := by
  have hends : Coherent (frameEnds s) := h.congr ⟨rfl, rfl⟩ rfl rfl rfl (.inl rfl)
  exact hearFrame_induction frame _ h (h.congr ⟨rfl, rfl⟩ rfl rfl rfl (.inl rfl)) hends (fun _ => hends.leaveLine _ _)
    fun n _ _ _ => frameReader_induction hc n hends (fun _ => hends.congr ⟨rfl, rfl⟩ rfl rfl rfl (.inl rfl))
      hends.peerUpdated hends.actsKeep

/-! ### Every command -/

theorem coherent_afterReset (s : State) : Coherent (afterReset s) :=
  .of_unclaimed ⟨⟨⟨by simp [afterReset, State.reset, resetMachine], fun h => nomatch h⟩, fun h => h.elim (nomatch ·) (nomatch ·),
      fun h => nomatch h⟩, ⟨⟨by simp [afterReset, State.reset, resetMachine], fun h => nomatch h⟩,
      fun h => h.elim (nomatch ·) (nomatch ·), fun h => nomatch h⟩⟩ (.inl rfl)
    ⟨rfl, ⟨rfl, rfl⟩, rfl, ⟨rfl, rfl, rfl, rfl, rfl⟩, rfl, ⟨rfl, rfl, rfl, rfl, rfl, rfl, rfl, rfl⟩⟩
    (fun h => h.elim (nomatch ·) (nomatch ·)) fun h => nomatch h

theorem Coherent.countRetry (h : Coherent s) : Coherent (countRetry s) := by
  obtain ⟨-, he⟩ | ⟨-, -, he⟩ | ⟨-, -, he⟩ := countRetry_cases s
  · rw [he]
    exact h.congr ⟨rfl, rfl⟩ rfl rfl rfl (.inl rfl)
  · rw [he]
    exact h.leaveLine _ _
  · rw [he]
    exact h.congr ⟨rfl, rfl⟩ rfl rfl rfl (.inl rfl)

theorem Coherent.checkStartUp (h : Coherent s) : Coherent (checkStartUp s) := by
  unfold Machine.checkStartUp leaveStarting
  dsimp only
  by_cases hend : s.cfg.mode = .starting ∧ s.cfg.address.isSome = true ∧ s.cfg.selfTest.ended = true
  · have hmode : s.cfg.mode ≠ .run := by
      rw [hend.1]
      exact NodeMode.noConfusion
    rw [if_pos hend]
    split_ifs <;> exact h.congr ⟨rfl, rfl⟩ rfl rfl rfl (.inr hmode)
  · rw [if_neg hend]
    exact h

theorem Coherent.levelStands (h : Coherent s) (i : LevelInput) : Coherent (levelStands i s) := by
  have hset (l : LevelLine) : Coherent { s with fld := s.fld.withLine i l } :=
    h.congr ⟨rfl, rfl⟩ rfl rfl (by cases i <;> rfl) (.inl rfl)
  unfold Machine.levelStands
  dsimp only
  split
  · exact hset _
  · exact (hset _).levelEdge _ _

theorem Coherent.flowTimerEnds (h : Coherent s) : Coherent (flowTimerEnds s) := by
  unfold Machine.flowTimerEnds
  dsimp only
  split
  · exact Coherent.flowPulse (h.congr ⟨rfl, rfl⟩ rfl rfl rfl (.inl rfl))
  all_goals exact h.congr ⟨rfl, rfl⟩ rfl rfl rfl (.inl rfl)

/-- A timer of the watering round expires, and the closed period is tested (R169). -/
theorem Coherent.checkClosedPeriod (h : Coherent s) (hw : s.wat.closedPeriod = true → s.rnd.round = .watering) :
    Coherent (checkClosedPeriod s) := by
  by_cases hc : s.wat.closedPeriod = true
  · exact (h.waters (hw hc)).checkClosedPeriod (h.run_of_watering (hw hc)) (h.dosesRun (hw hc))
  · unfold Machine.checkClosedPeriod
    rw [if_neg (by simp [hc])]
    exact h

theorem Coherent.restEnds (h : Coherent s) (hrest : s.rnd.restPeriod.isSome = true) :
    Coherent { s with rnd.restPeriod := none, rnd.round := if s.rnd.round = .rest then .float else s.rnd.round } := by
  have hx := h.rest.mp hrest
  obtain ⟨h1, h2, h3, ⟨t1, t2, t3, t4, -⟩, h5, h6⟩ := h.fits hx
  rw [if_pos hx]
  exact .of_unclaimed (h.noClaims (.inr (.inr (.inr (.inl hx))))) (.inl rfl)
    ⟨h1, h2, h3, ⟨t1, t2, t3, t4, rfl⟩, h5, h6⟩ (by simp) (by simp)

theorem LineStep.coherent (k : LineStep s t) (hm : ModesKept s) (h : Coherent s) : Coherent t := by
  have hframe {t : State} (k : LineFrame s t) : Coherent t :=
    h.congr (by rw [k.clm]; exact ⟨rfl, rfl⟩) k.rnd k.wat k.pwmDuty (.inl k.mode)
  cases k with
  | own k => exact hframe k
  | failed k => exact (hframe k).countRetry
  | sent k ha =>
    refine (hframe k).noticeSent fun hr => ?_
    rw [k.mode, hm.isolated_of_recovery ha hr]
    exact NodeMode.noConfusion
  | startUp k => exact (hframe k).checkStartUp

/-- The off time over: the watering round goes on. -/
theorem Coherent.offTimeOver (h : Coherent s) (d : Nat) : Coherent { s.reach d with wat.offTime := none } := by
  obtain ⟨h1, h2, h3, h4, h5, h6, h7, h8, h9, h10, h11, h12, h13, h14, h15, h16, h17, h18, h19, h20, h21, h22, h23, h24,
    h25, h26, h27, h28, h29, h30⟩ := h
  refine ⟨h1, h2, h3, h4, h5, h6, h7, h8, h9, h10, h11, h12, h13, h14, h15, h16, h17, h18, h19, h20, h21, h22, h23, h24,
    h25, h26, h27, h28, fun hw => h29 ?_, h30⟩
  obtain hw | hw | hw | hw | hw | hw := hw
  · exact .inl hw
  · exact .inr (.inl hw)
  · cases hw
  · exact .inr (.inr (.inr (.inl hw)))
  · exact .inr (.inr (.inr (.inr (.inl hw))))
  · exact .inr (.inr (.inr (.inr (.inr hw))))

/-- The early-flow limit over: the watering round goes on. -/
theorem Coherent.earlyLimitOver (h : Coherent s) (d : Nat) : Coherent { s.reach d with wat.earlyLimit := none } := by
  obtain ⟨h1, h2, h3, h4, h5, h6, h7, h8, h9, h10, h11, h12, h13, h14, h15, h16, h17, h18, h19, h20, h21, h22, h23, h24,
    h25, h26, h27, h28, h29, h30⟩ := h
  refine ⟨h1, h2, h3, h4, h5, h6, h7, h8, h9, h10, h11, h12, h13, h14, h15, h16, h17, h18, h19, h20, h21, h22, h23, h24,
    h25, h26, h27, h28, fun hw => h29 ?_, h30⟩
  obtain hw | hw | hw := hw
  · exact .inl hw
  · cases hw
  · exact .inr (.inr hw)

/-- A PWM period starts with the duty as it stands (R186). -/
theorem Coherent.pwmStarts (h : Coherent s) (start : Nat) :
    Coherent { s.reach start with fld.pwmStart := start, fld.pwmDuty := s.rnd.duty } := by
  obtain ⟨h1, h2, h3, h4, h5, h6, h7, h8, h9, h10, h11, h12, -, h14, h15, h16, h17, h18, h19, h20, h21, h22, h23, h24,
    h25, h26, h27, h28, h29, h30⟩ := h
  exact ⟨h1, h2, h3, h4, h5, h6, h7, h8, h9, h10, h11, h12, id, h14, h15, h16, h17, h18, h19, h20, h21, h22, h23, h24,
    h25, h26, h27, h28, h29, h30⟩

theorem exec_coherent (c : Instr) (hm : ModesKept s) (h : Coherent s) : Completes Coherent (exec c s) := by
  have hsame {t : State} (hclm : t.clm.eq = s.clm.eq ∧ t.clm.water = s.clm.water) (hrnd : t.rnd = s.rnd)
      (hwat : t.wat = s.wat) (hpwm : t.fld.pwmDuty = s.fld.pwmDuty) (hmode : t.cfg.mode = s.cfg.mode) : Coherent t :=
    h.congr hclm hrnd hwat hpwm (.inl hmode)
  have hline {t : State} (hclm : t.clm = s.clm) (hrnd : t.rnd = s.rnd) (hwat : t.wat = s.wat) (hfld : t.fld = s.fld)
      (hmode : t.cfg.mode = s.cfg.mode) : Coherent t :=
    h.congr (by rw [hclm]; exact ⟨rfl, rfl⟩) hrnd hwat (by rw [hfld]) (.inl hmode)
  have htime (after : Nat) : Coherent (s.elapse after) := hline rfl rfl rfl rfl rfl
  have hreach (d : Nat) : Coherent (s.reach d) := hline rfl rfl rfl rfl rfl
  cases c with
  | reset => exact .of_next (coherent_afterReset s)
  | statusNotice after frame | claimNotice after frame | releaseNotice after frame | reportNotice after frame
  | hold after frame | stop after frame | forceEq after frame | forceWater after frame | clear after frame
  | query after frame =>
    exact completes_frameCommand (after := after) (frame := frame) (by simp [FrameCommand]) fun hf =>
      coherent_hearFrame hf (htime after)
  | sampleSet words => exact completes_expiry h fun d _ => (hreach d).deliverSampleSet words
  | scanStart | hourExpiry => exact .of_next (hline rfl rfl rfl rfl rfl)
  | contentionWindowExpiry r =>
    exact completes_expiry h fun d hd => (hreach d).windowExpires (by
      show (s.clm.machine r).windowTimer.isSome = true
      rw [hd]
      rfl)
  | backOffExpiry r =>
    exact completes_expiry h fun d _ => hsame (by cases r <;> exact ⟨rfl, rfl⟩) rfl rfl rfl rfl
  | chargerWaitExpiry =>
    exact completes_expiry h fun d hd => (hreach d).prepareEnds (h.chargerWait.mp (by rw [hd]; rfl)) _ _
  | transferWindowExpiry =>
    exact completes_expiry h fun d hd => (hreach (d + transferUs)).transferLate (by
      show s.rnd.transferFrom.isSome = true
      rw [hd]
      rfl)
  | recoveryCheckExpiry =>
    show Completes _ (execRecoveryCheckExpiry s)
    unfold execRecoveryCheckExpiry
    split
    · next k hk =>
      have hrun : s.rnd.recoveryCheck.isSome = true := by rw [hk]; rfl
      exact .of_next ((hreach k.ends).enterStuck (h.recoveryCheck hrun) (.inr hrun))
    · exact .of_next h
  | currentWaitExpiry =>
    exact completes_expiry h fun d hd => (hreach d).commandFloatWithWindow (by
      show s.rnd.currentWait.isSome = true
      rw [hd]
      rfl)
  | restPeriodExpiry =>
    exact completes_expiry h fun d hd => (hreach d).restEnds (by
      show s.rnd.restPeriod.isSome = true
      rw [hd]
      rfl)
  | flowWindowExpiry =>
    exact completes_expiry h fun d hd => (hreach d).flowWindowPasses (by
      show s.wat.flowWindow.isSome = true
      rw [hd]
      rfl)
  | openPeriodExpiry =>
    exact completes_expiry h fun d hd => (hreach d).closePulse (by
      obtain ⟨g, hg⟩ := Option.isSome_iff_exists.mp (h.pulse.mp (by rw [hd]; rfl))
      exact (h.valve g hg).1)
  | drainGraceExpiry =>
    exact completes_expiry h fun d _ => Coherent.checkClosedPeriod
      ((by constructor <;> first | rfl | exact .refl _ | exact .inl rfl : SameRound s _).coherent h)
      fun hc => h.wateringTimers (by simp [show s.wat.closedPeriod = true from hc])
  | offTimeExpiry =>
    exact completes_expiry h fun d _ => Coherent.checkClosedPeriod (h.offTimeOver d)
      fun hc => h.wateringTimers (by simp [show s.wat.closedPeriod = true from hc])
  | roundLimitExpiry =>
    exact completes_expiry h fun d hd =>
      ((hreach d).waters (h.wateringTimers (by simp [hd]))).ends _ _
  | earlyFlowLimitExpiry => exact completes_expiry h fun d _ => h.earlyLimitOver d
  | dryLatchExpiry =>
    exact completes_expiry h fun d _ =>
      (by constructor <;> first | rfl | exact .refl _ | exact .inl rfl : SameRound s _).coherent h
  | stabilityTimerExpiry i => exact completes_expiry h fun d _ => (hreach d).levelStands i
  | flowTimerExpiry => exact completes_expiry h fun d _ => (hreach d).flowTimerEnds
  | rawLevelChange after i => exact .of_next (hsame ⟨rfl, rfl⟩ rfl rfl (by cases i <;> rfl) rfl)
  | flowEdge after => exact .of_next (hsame ⟨rfl, rfl⟩ rfl rfl rfl rfl)
  | pwmPeriodStart => exact .of_next (h.pwmStarts _)
  | strapsSettled | configurationRead | selfTest | lineBreak | framingError | lineIdle | dominantCount | attemptStart
  | arbitrationLost | bitError | attemptComplete | frameAbandoned | frameDiscarded | recoveryAttempt =>
    exact (exec_lineStep rfl s).imp fun t k => k.coherent hm h
  | joiningTimerExpiry =>
    refine completes_expiry h fun d hd => h.congr ⟨rfl, rfl⟩ rfl rfl rfl (.inr ?_)
    rw [hm.joining.mp (by rw [hd]; rfl)]
    exact NodeMode.noConfusion
  | statusPeriodExpiry =>
    exact completes_expiry h fun _ _ => Coherent.requestStatus (hsame ⟨rfl, rfl⟩ rfl rfl rfl rfl)
  | holdTimerExpiry =>
    exact completes_expiry h fun _ _ => Coherent.requestStatus (hline rfl rfl rfl rfl rfl)

/-- Settles O7: every command keeps the round coherent, and the waiting commands play no part in it. -/
theorem roundStaysCoherent : Obligations.RoundStaysCoherent := fun _ _ hm h ht =>
  step_of_exec h
    (fun c _ _ => exec_coherent c (hm.line rfl rfl rfl rfl (.inl rfl)) (h.congr ⟨rfl, rfl⟩ rfl rfl rfl (.inl rfl))) ht

end Sys2Proof.Machine
end

section
/-! SUPPORT. The shares of a round: what each operation of RND and CLM does to the applied and the pending share, and to
the claim they are the shares of. -/

namespace Sys2Proof.Machine

open Sys2Proof

variable {s t u : State} {r : Resource}

/-! ### Shares in order, and a claim that never grows -/

/-- A claim HELD after a change was HELD before it, with the same tag and snapshot and no smaller share. -/
def ClaimShrinks (m m' : ClaimMachine) : Prop :=
  m'.state = .held → m.state = .held ∧ m'.tag = m.tag ∧ m'.snapshot = m.snapshot ∧ m'.share ≤ m.share

/-- `t` has its shares in order if `s` has, and a HELD claim of `t` is the one of `s`. -/
structure SharesKept (s t : State) : Prop where
  claim : ClaimShrinks s.clm.eq t.clm.eq
  order : SharesInOrder s → SharesInOrder t

theorem ClaimShrinks.refl (m : ClaimMachine) : ClaimShrinks m m := fun h => ⟨h, rfl, rfl, le_rfl⟩

theorem ClaimShrinks.trans {m m' m'' : ClaimMachine} (h : ClaimShrinks m m') (k : ClaimShrinks m' m'') :
    ClaimShrinks m m'' := fun hh => by
  obtain ⟨hh', kt, ks, kn⟩ := k hh
  obtain ⟨hh'', ht, hs, hn⟩ := h hh'
  exact ⟨hh'', kt.trans ht, ks.trans hs, kn.trans hn⟩

theorem ClaimShrinks.of_not_held {m m' : ClaimMachine} (h : m'.state ≠ .held) : ClaimShrinks m m' := fun hh => absurd hh h

theorem SharesKept.refl (s : State) : SharesKept s s := ⟨.refl _, id⟩

theorem SharesKept.trans (h : SharesKept s t) (k : SharesKept t u) : SharesKept s u :=
  ⟨h.claim.trans k.claim, fun ho => k.order (h.order ho)⟩

theorem SharesKept.after (k : SharesKept t u) (h : SharesKept s t) : SharesKept s u := h.trans k

theorem SharesKept.ite {c : Prop} [Decidable c] (h : c → SharesKept s t) (k : ¬ c → SharesKept s u) :
    SharesKept s (if c then t else u) := by
  split
  · next hc => exact h hc
  · next hc => exact k hc

/-- The same round and the same shares. -/
theorem SharesKept.of_same (hclaim : ClaimShrinks s.clm.eq t.clm.eq) (hshare : t.clm.eq.share = s.clm.eq.share)
    (hround : t.rnd.round = s.rnd.round) (happlied : t.rnd.applied = s.rnd.applied) (hpending : t.rnd.pending = s.rnd.pending)
    (hvalid : t.rnd.pendingValid = s.rnd.pendingValid) : SharesKept s t :=
  ⟨hclaim, fun ⟨h1, h2, h3, h4⟩ => by constructor <;> simpa only [hshare, hround, happlied, hpending, hvalid]⟩

/-- The same claim, round and shares. -/
theorem SharesKept.of_rnd (heq : t.clm.eq = s.clm.eq) (hround : t.rnd.round = s.rnd.round)
    (happlied : t.rnd.applied = s.rnd.applied) (hpending : t.rnd.pending = s.rnd.pending)
    (hvalid : t.rnd.pendingValid = s.rnd.pendingValid) : SharesKept s t :=
  .of_same (heq ▸ .refl _) (by rw [heq]) hround happlied hpending hvalid

/-- Nothing is applied or pending outside work. -/
theorem SharesInOrder.of_cleared (hwork : workingEqualise t.rnd.round = false) (happlied : t.rnd.applied = 0)
    (hvalid : t.rnd.pendingValid = false) : SharesInOrder t :=
  ⟨fun h => Bool.noConfusion (hwork.symm.trans h), fun h => Bool.noConfusion (hwork.symm.trans h),
    fun h => Bool.noConfusion (hvalid.symm.trans h), fun h => absurd happlied h⟩

theorem SharesKept.of_cleared (hclaim : ClaimShrinks s.clm.eq t.clm.eq) (hwork : workingEqualise t.rnd.round = false)
    (happlied : t.rnd.applied = 0) (hvalid : t.rnd.pendingValid = false) : SharesKept s t :=
  ⟨hclaim, fun _ => .of_cleared hwork happlied hvalid⟩

/-- From one state outside work to another. -/
theorem SharesKept.of_idle (hclaim : ClaimShrinks s.clm.eq t.clm.eq) (hs : workingEqualise s.rnd.round = false)
    (ht : workingEqualise t.rnd.round = false) (happlied : t.rnd.applied = s.rnd.applied)
    (hvalid : t.rnd.pendingValid = s.rnd.pendingValid) : SharesKept s t := by
  refine ⟨hclaim, fun h => .of_cleared ht (happlied.trans ?_) (hvalid.trans ?_)⟩
  · by_contra hne
    obtain hx | hx := h.regulated hne <;> rw [hx] at hs <;> cases hs
  · exact Bool.eq_false_iff.mpr fun hv => Bool.noConfusion (hs.symm.trans (h.marked hv))

/-- From one state of work to another: to regulation from regulation alone goes a share that is applied. -/
theorem SharesKept.of_working (heq : t.clm.eq = s.clm.eq) (hs : workingEqualise s.rnd.round = true)
    (ht : workingEqualise t.rnd.round = true)
    (hreg : s.rnd.round = .equalising ∨ s.rnd.round = .soak → t.rnd.round = .equalising ∨ t.rnd.round = .soak)
    (happlied : t.rnd.applied = s.rnd.applied) (hpending : t.rnd.pending = s.rnd.pending)
    (hvalid : t.rnd.pendingValid = s.rnd.pendingValid) : SharesKept s t := by
  refine ⟨heq ▸ .refl _, fun ⟨h1, h2, h3, h4⟩ => ⟨fun _ hv => ?_, fun _ hv => ?_, fun _ => ht, fun ha => ?_⟩⟩
  · rw [hpending, heq]
    exact h1 hs (hvalid ▸ hv)
  · rw [happlied, heq]
    exact h2 hs (hvalid ▸ hv)
  · exact hreg (h4 (happlied ▸ ha))

/-! ### Claims -/

theorem shares_requestStatus (s : State) : SharesKept s (requestStatus s) := by
  rw [requestStatus_eq]
  exact .of_rnd rfl rfl rfl rfl rfl

/-- A machine in another state than HELD, with its share. -/
theorem shares_withMachine {m : ClaimMachine} (hheld : m.state ≠ .held) (hshare : m.share = (s.clm.machine r).share) :
    SharesKept s (s.withMachine r m) := by
  cases r
  · exact .of_same (.of_not_held hheld) hshare rfl rfl rfl rfl
  · exact .of_rnd rfl rfl rfl rfl rfl

theorem shares_startBackOff (r : Resource) (s : State) : SharesKept s (startBackOff r s) := by
  cases r <;> exact .of_rnd rfl rfl rfl rfl rfl

theorem shares_withdraw (r : Resource) (s : State) : SharesKept s (withdraw r s) := by
  unfold withdraw
  dsimp only
  split
  · exact shares_withMachine (by simp) rfl
  · exact (shares_startBackOff r _).after (shares_withMachine (by simp) rfl)
  all_goals exact .refl s

theorem shares_releaseClaim (r : Resource) (o : RoundOutcome) (s : State) : SharesKept s (releaseClaim r o s) := by
  unfold releaseClaim
  dsimp only
  split
  · exact shares_withMachine (by simp) rfl
  all_goals exact .refl s

theorem shares_completed (k : NoticeKey) (s : State) : SharesKept s (noticeSent k s) := by
  unfold noticeSent
  split
  · unfold releaseCompleted
    exact .ite (fun _ => shares_withMachine (by simp) rfl) fun _ => .refl s
  · unfold claimCompleted
    exact .ite (fun _ => shares_withMachine (by simp) rfl) fun _ =>
      .ite (fun _ => (shares_startBackOff _ _).after (shares_withMachine (by simp) rfl)) fun _ => .refl s
  all_goals exact .of_rnd rfl rfl rfl rfl rfl

/-! ### The equalising round -/

theorem shares_equaliseEnd (s : State) : SharesKept s (equaliseEnd s) := by
  unfold equaliseEnd
  dsimp only
  have hclosed {c : State} (hc : SharesKept s c) :
      ClaimShrinks s.clm.eq (releaseClaim .eq s.roundOutcome c).clm.eq :=
    hc.claim.trans (shares_releaseClaim _ _ _).claim
  split_ifs
  · refine (shares_requestStatus _).after (.of_cleared (hclosed ?_) rfl rfl rfl)
    exact .of_rnd rfl rfl rfl rfl rfl
  · refine .of_cleared (hclosed ?_) rfl rfl rfl
    exact .of_rnd rfl rfl rfl rfl rfl
  · refine .of_cleared (hclosed ?_) rfl rfl rfl
    exact .of_rnd rfl rfl rfl rfl rfl

theorem shares_enterStuck (hs : workingEqualise s.rnd.round = false) : SharesKept s (enterStuck s) := by
  rw [enterStuck_eq]
  refine .of_idle ?_ hs rfl rfl rfl
  show ClaimShrinks _ (if s.clm.eq.state = .held then { s.clm.eq with share := 0 } else s.clm.eq)
  split
  · exact fun h => ⟨h, rfl, rfl, Nat.zero_le _⟩
  · exact .refl _

theorem shares_enterTransferBack (s : State) : SharesKept s (enterTransferBack s) := .of_cleared (.refl _) rfl rfl rfl

theorem shares_fixOutcome (o : RoundOutcome) (c : Option AbortCause) (s : State) : SharesKept s (fixOutcome o c s) :=
  .of_rnd rfl rfl rfl rfl rfl

theorem shares_commandFloatWithCheck (l : Bool) (s : State) : SharesKept s (commandFloatWithCheck l s) := by
  unfold commandFloatWithCheck recoverySucceeds
  refine .ite (fun _ => .of_rnd rfl rfl rfl rfl rfl) fun _ => (shares_equaliseEnd _).after (.of_rnd rfl rfl rfl rfl rfl)

theorem shares_commandFloatWithWindow (hs : workingEqualise s.rnd.round = false) :
    SharesKept s (commandFloatWithWindow s) := by
  unfold commandFloatWithWindow
  refine .ite (fun _ => .of_rnd rfl rfl rfl rfl rfl) fun _ => (shares_enterStuck ?_).after (.of_rnd rfl rfl rfl rfl rfl)
  exact hs

theorem shares_goBack (o : RoundOutcome) (c : Option AbortCause) (s : State) : SharesKept s (goBack o c s) :=
  .of_cleared (.refl _) rfl rfl rfl

/-- The outcome fixed, TRANSFER_BACK entered and float commanded with a check. -/
theorem shares_backWithCheck (o : RoundOutcome) (c : Option AbortCause) (l : Bool) (s : State) :
    SharesKept s (commandFloatWithCheck l (enterTransferBack (fixOutcome o c s))) :=
  ((shares_fixOutcome o c s).trans (shares_enterTransferBack _)).trans (shares_commandFloatWithCheck _ _)

theorem shares_moveOutFails (s : State) : SharesKept s (moveOutFails s) :=
  (shares_backWithCheck _ _ _ _).after (.of_rnd rfl rfl rfl rfl rfl)

theorem shares_moveOutSucceeds (hx : s.rnd.round = .transferOut) : SharesKept s (moveOutSucceeds s) := by
  unfold moveOutSucceeds
  dsimp only
  split
  · exact .of_working rfl (by rw [hx]; rfl) rfl (fun _ => .inl rfl) rfl rfl rfl
  all_goals exact .of_cleared (.refl _) rfl rfl rfl

theorem shares_enterTransferOut (hx : s.rnd.round = .prepare) : SharesKept s (enterTransferOut s) := by
  have hout : SharesKept s
      { s with rnd.round := .transferOut, rnd.chargerWait := none, rnd.relay := .equalise, rnd.deferred := none } :=
    .of_working rfl (by rw [hx]; rfl) rfl (fun h => by rw [hx] at h; simp at h) rfl rfl rfl
  unfold enterTransferOut
  exact .ite (fun _ => hout.trans (shares_moveOutFails _)) fun _ => hout.trans (.of_rnd rfl rfl rfl rfl rfl)

theorem shares_prepareEnds (o : RoundOutcome) (c : Option AbortCause) (s : State) : SharesKept s (prepareEnds o c s) :=
  (shares_equaliseEnd _).after (.of_rnd rfl rfl rfl rfl rfl)

theorem shares_deferCause (d : DeferredCause) (s : State) : SharesKept s (deferCause d s) :=
  .of_rnd rfl rfl rfl rfl rfl

theorem shares_uncommanded (hs : workingEqualise s.rnd.round = false) : SharesKept s (uncommandedOutsideRound s) := by
  rw [uncommandedOutsideRound_eq]
  exact .of_idle (.refl _) hs rfl rfl rfl

theorem round_withdraw (r : Resource) (s : State) : (withdraw r s).rnd = s.rnd := by
  unfold withdraw
  dsimp only
  split
  · rfl
  · cases r <;> rfl
  all_goals rfl

theorem shares_fbToEqualise (s : State) : SharesKept s (fbToEqualise s) := by
  unfold fbToEqualise
  split
  case h_1 hx =>
    split
    · exact .ite (fun _ => shares_moveOutFails s) fun _ => shares_moveOutSucceeds hx
    · exact .refl s
  case h_2 => exact (shares_backWithCheck _ _ _ _).after (.of_rnd rfl rfl rfl rfl rfl)
  case h_3 hx | h_4 hx | h_5 hx | h_6 hx => exact shares_uncommanded (by rw [hx]; rfl)
  case h_7 hx | h_8 hx =>
    exact (shares_withdraw _ s).trans (shares_uncommanded (by rw [round_withdraw, hx]; rfl))
  case h_9 | h_10 => exact .of_rnd rfl rfl rfl rfl rfl
  all_goals exact .refl s

theorem shares_fbToFloat (s : State) : SharesKept s (fbToFloat s) := by
  unfold fbToFloat
  split
  case h_1 | h_2 => exact (shares_backWithCheck _ _ _ _).after (.of_rnd rfl rfl rfl rfl rfl)
  case h_3 hx =>
    split
    · exact .ite (fun _ => shares_enterStuck (by rw [hx]; rfl)) fun _ =>
        (shares_equaliseEnd _).after (.of_rnd rfl rfl rfl rfl rfl)
    · exact (shares_equaliseEnd _).after (.of_rnd rfl rfl rfl rfl rfl)
    · exact .ite (fun _ => (shares_commandFloatWithCheck _ _).after (.of_rnd rfl rfl rfl rfl rfl)) fun _ => .refl s
  all_goals exact .refl s

theorem shares_transferLate (s : State) : SharesKept s (transferLate s) := by
  unfold transferLate
  split
  case h_1 => exact shares_moveOutFails s
  case h_2 hx => exact shares_enterStuck (by rw [hx]; rfl)
  all_goals exact .refl s

/-! ### The watering round -/

theorem round_releaseClaim (r : Resource) (o : RoundOutcome) (s : State) : (releaseClaim r o s).rnd = s.rnd := by
  unfold releaseClaim
  dsimp only
  split <;> rfl

theorem shares_wateringEnds (hs : workingEqualise s.rnd.round = false) (o : RoundOutcome) (c : Option AbortCause) :
    SharesKept s (wateringEnds o c s) := by
  have hclose : SharesKept s (closeValveAtEnd (fixOutcome o c s)) :=
    (shares_fixOutcome o c s).trans (.ite (fun _ => .of_rnd rfl rfl rfl rfl rfl) fun _ => .refl _)
  have hround : (closeValveAtEnd (fixOutcome o c s)).rnd.round = s.rnd.round := by
    unfold closeValveAtEnd
    split <;> rfl
  unfold wateringEnds
  dsimp only
  generalize closeValveAtEnd (fixOutcome o c s) = v at hclose hround
  rw [← hround] at hs
  refine hclose.trans ?_
  have hrelease {w : State} (hw : SharesKept v w) (hr : w.rnd.round = v.rnd.round) :
      SharesKept v (releaseClaim .water v.roundOutcome w) ∧
        workingEqualise (releaseClaim .water v.roundOutcome w).rnd.round = false :=
    ⟨hw.trans (shares_releaseClaim _ _ _), by rw [round_releaseClaim, hr]; exact hs⟩
  have hover {w : State} {x : RoundState} (hw : SharesKept v w ∧ workingEqualise w.rnd.round = false)
      (hx : workingEqualise x = false) : SharesKept v { w with rnd.round := x } :=
    hw.1.trans (.of_idle (.refl _) hw.2 hx rfl rfl)
  split_ifs
  · refine (shares_requestStatus _).after (hover (hrelease ?_ rfl) rfl)
    exact .of_rnd rfl rfl rfl rfl rfl
  · refine hover (hrelease ?_ rfl) rfl
    exact .of_rnd rfl rfl rfl rfl rfl

theorem shares_startGroups (l : List (Fin 8)) : ∀ {s : State}, workingEqualise s.rnd.round = false →
    SharesKept s (startGroups l s) := by
  induction l with
  | nil => exact fun {s} hs => (shares_wateringEnds (s := { s with wat.plan := [] }) hs _ _).after (.of_rnd rfl rfl rfl rfl rfl)
  | cons g rest ih =>
    exact fun {s} hs => .ite (fun _ => (ih (s := s.withGroup g _) hs).after (.of_rnd rfl rfl rfl rfl rfl)) fun _ =>
      .of_rnd rfl rfl rfl rfl rfl

theorem shares_checkClosedPeriod (hs : workingEqualise s.rnd.round = false) : SharesKept s (checkClosedPeriod s) := by
  unfold checkClosedPeriod closedPeriodEnds
  refine .ite (fun _ => ?_) fun _ => .refl s
  split
  · exact .of_rnd rfl rfl rfl rfl rfl
  · split
    · exact (shares_startGroups _ (s := s.withGroup _ _) hs).after (.of_rnd rfl rfl rfl rfl rfl)
    · exact .of_rnd rfl rfl rfl rfl rfl

theorem shares_wateringConflict (hs : workingEqualise s.rnd.round = false) : SharesKept s (wateringConflict s) :=
  (shares_wateringEnds (s := { s with rnd.inhibit := true }) hs _ _).after (.of_rnd rfl rfl rfl rfl rfl)

theorem shares_flowInDose (hs : workingEqualise s.rnd.round = false) (g : Fin 8) : SharesKept s (flowInDose g s) := by
  have hcount : SharesKept s (countFlow g s) := .of_rnd rfl rfl rfl rfl rfl
  unfold flowInDose
  dsimp only
  refine .ite (fun _ => hcount.trans (shares_wateringConflict hs)) fun _ => ?_
  have hj : SharesKept s (if s.wat.flowWindow.isSome = true then
        { countFlow g s with wat.flowWindow := none, wat.noFlow := 0 } else countFlow g s) ∧
      workingEqualise (if s.wat.flowWindow.isSome = true then
        { countFlow g s with wat.flowWindow := none, wat.noFlow := 0 } else countFlow g s).rnd.round = false := by
    split
    · exact ⟨.of_rnd rfl rfl rfl rfl rfl, hs⟩
    · exact ⟨hcount, hs⟩
  generalize (if s.wat.flowWindow.isSome = true then
    { countFlow g s with wat.flowWindow := none, wat.noFlow := 0 } else countFlow g s) = j at hj
  refine hj.1.trans ?_
  unfold closeIfReached
  split
  · exact (shares_checkClosedPeriod (s := closePulse j) hj.2).after (.of_rnd rfl rfl rfl rfl rfl)
  · exact shares_checkClosedPeriod hj.2

theorem shares_flowPulse (s : State) : SharesKept s (flowPulse s) := by
  unfold flowPulse flowOutsideDose
  split
  · split
    · next hx =>
      split
      · exact shares_flowInDose (by rw [hx]; rfl) _
      · exact .refl s
    · exact .refl s
  · split
    · exact .ite (fun hx => shares_wateringConflict (by rw [hx]; rfl)) fun _ => .refl s
    · exact .ite (fun _ => .refl s) fun _ => .of_rnd rfl rfl rfl rfl rfl
    all_goals exact .refl s

theorem shares_flowWindowPasses (hs : workingEqualise s.rnd.round = false) : SharesKept s (flowWindowPasses s) := by
  unfold flowWindowPasses wateringDry
  dsimp only
  split_ifs
  · refine (shares_checkClosedPeriod ?_).after (.of_rnd rfl rfl rfl rfl rfl)
    exact hs
  · refine (shares_wateringEnds ?_ _ _).after (.of_rnd rfl rfl rfl rfl rfl)
    exact hs
  · refine (shares_checkClosedPeriod ?_).after (.of_rnd rfl rfl rfl rfl rfl)
    exact hs

/-! ### The sample set -/

theorem shares_equaliseSample (hx : s.rnd.round = .equalising ∨ s.rnd.round = .soak) : SharesKept s (equaliseSample s) := by
  have hw : workingEqualise s.rnd.round = true := by obtain hx | hx := hx <;> rw [hx] <;> rfl
  have hband : SharesKept s (stepBand s) ∧ ((stepBand s).rnd.round = .equalising ∨ (stepBand s).rnd.round = .soak) := by
    unfold stepBand
    cases s.mon.band with
    | true => exact ⟨.of_working rfl hw rfl (fun _ => .inr rfl) rfl rfl rfl, .inr rfl⟩
    | false => exact ⟨.of_working rfl hw rfl (fun _ => .inl rfl) rfl rfl rfl, .inl rfl⟩
  have happly : SharesKept (stepBand s) (applyPending (stepBand s)) := by
    unfold applyPending
    split
    · next hv =>
      have hw' : workingEqualise (stepBand s).rnd.round = true := by obtain hx | hx := hband.2 <;> rw [hx] <;> rfl
      exact ⟨.refl _, fun h => ⟨fun _ hv' => (nomatch hv'), fun _ _ => h.pending hw' hv, fun hv' => (nomatch hv'),
        fun _ => hband.2⟩⟩
    · exact .refl _
  unfold equaliseSample
  refine .ite (fun _ => shares_goBack _ _ s) fun _ => .ite (fun _ => shares_goBack _ _ s) fun _ => ?_
  dsimp only
  split
  · exact hband.1.trans (shares_goBack _ _ _)
  · exact (hband.1.trans happly).trans (.of_rnd rfl rfl rfl rfl rfl)

theorem shares_reduceShare (c : Channel) (s : State) : SharesKept s (reduceShare c s) := by
  unfold reduceShare
  dsimp only
  split_ifs with hx hr
  · refine (shares_requestStatus _).after ⟨fun h => ⟨h, rfl, rfl, hr.2.2.2.le⟩, fun h => ?_⟩
    have hw : workingEqualise s.rnd.round = true := by obtain hx | hx := hx.1 <;> rw [hx] <;> rfl
    exact ⟨fun _ _ => rfl, fun _ hv => (nomatch hv), fun _ => hw, fun _ => hx.1⟩
  · exact .of_rnd rfl rfl rfl rfl rfl
  · exact .refl s

theorem shares_roundSample (s : State) : SharesKept s (roundSample s) := by
  have hto {x y : RoundState} (hx : s.rnd.round = x) (h : workingEqualise x = false) (hy : workingEqualise y = false) :
      SharesKept s { s with rnd.round := y } := .of_idle (.refl _) (by rw [hx]; exact h) hy rfl rfl
  unfold roundSample
  split
  case h_1 hx => exact .ite (fun _ => hto hx rfl rfl) fun _ => .ite (fun _ => hto hx rfl rfl) fun _ => .refl s
  case h_2 hx =>
    exact .ite (fun _ => .ite (fun _ => .of_idle (.of_not_held (by simp [makeClaim, Clm.withMachine])) (by rw [hx]; rfl) rfl rfl rfl)
      fun _ => .refl s) fun _ => hto hx rfl rfl
  case h_3 hx =>
    exact .ite (fun _ => .ite (fun _ => .of_idle (.refl _) (by rw [hx]; rfl) rfl rfl rfl) fun _ => .refl s)
      fun _ => hto hx rfl rfl
  case h_4 hx | h_5 hx =>
    exact .ite (fun _ => .refl s) fun _ => (shares_withdraw _ s).trans
      (.of_idle (.refl _) (by rw [round_withdraw, hx]; rfl) rfl rfl rfl)
  case h_6 => exact .ite (fun _ => shares_prepareEnds _ _ s) fun _ => .ite (fun _ => shares_prepareEnds _ _ s) fun _ => .refl s
  case h_7 hx => exact shares_equaliseSample (.inl hx)
  case h_8 hx => exact shares_equaliseSample (.inr hx)
  case h_9 hx => exact .ite (fun _ => shares_commandFloatWithWindow (by rw [hx]; rfl)) fun _ => .refl s
  all_goals exact .refl s

theorem shares_deliverSampleSet (words : List ScanWord) (s : State) : SharesKept s (deliverSampleSet words s) := by
  have hc : SharesKept s (conditioned words s) := by
    obtain ⟨q, h⟩ := conditioned_form (s := s) words
    rw [h]
    exact .of_rnd rfl rfl rfl rfl rfl
  exact (hc.trans (shares_roundSample _)).trans (shares_reduceShare _ _)

/-! ### Loss, yield and the panel -/

theorem shares_backToDue (r : Resource) (s : State) : SharesKept s (backToDue r s) := by
  unfold backToDue
  split
  · next hx => exact .of_idle (.refl _) (by rw [hx]; rfl) rfl rfl rfl
  · next hx => exact .of_idle (.refl _) (by rw [hx]; rfl) rfl rfl rfl
  · exact .refl s

theorem shares_rndYield (s : State) : SharesKept s (rndYield s) := by
  unfold rndYield
  split
  case h_1 => exact shares_prepareEnds _ _ s
  case h_2 | h_3 => exact shares_goBack _ _ s
  case h_4 => exact shares_deferCause _ s
  case h_5 hx => exact shares_wateringEnds (by rw [hx]; rfl) _ _
  all_goals exact .refl s

theorem shares_claimOutranked (r : Resource) (s : State) : SharesKept s (claimOutranked r s) := by
  have hmark : SharesKept s (s.withMachine r { s.clm.machine r with yielding := true }) := by
    cases r
    · exact .of_same (fun h => ⟨h, rfl, rfl, le_rfl⟩) rfl rfl rfl rfl rfl
    · exact .of_rnd rfl rfl rfl rfl rfl
  unfold claimOutranked
  dsimp only
  split
  · exact ((shares_withdraw r s).trans (shares_startBackOff r _)).trans (shares_backToDue r _)
  · exact (shares_withdraw r s).trans (shares_backToDue r _)
  · exact .ite (fun _ => .refl s) fun _ => hmark.trans (shares_rndYield _)
  all_goals exact .refl s

theorem shares_peerUpdated (before after : PeerRecord) (s : State) : SharesKept s (peerUpdated before after s) := by
  have htable : SharesKept s { s with ptb := putPeer after s.ptb } := .of_rnd rfl rfl rfl rfl rfl
  have heq (v : State) : SharesKept v (testEqUpdate before after v) := by
    unfold testEqUpdate
    split
    · exact .ite (fun _ => shares_claimOutranked _ v) fun _ => .refl v
    · exact .refl v
  have hwater (v : State) : SharesKept v (testWaterUpdate before after v) := by
    unfold testWaterUpdate
    split
    · exact .ite (fun _ => shares_claimOutranked _ v) fun _ => .refl v
    · exact .refl v
  exact (htable.trans (heq _)).trans (hwater _)

theorem shares_holdMachine (r : Resource) (s : State) : SharesKept s (holdMachine r s) := by
  unfold holdMachine
  split
  · exact (shares_withdraw r s).trans (shares_backToDue r _)
  · exact (shares_withdraw r s).trans (shares_backToDue r _)
  all_goals exact .refl s

theorem shares_stopClaim (hx : workingEqualise s.rnd.round = false) (r : Resource) : SharesKept s (stopClaim r s) := by
  have hback : SharesKept s { startBackOff r (withdraw r s) with rnd.round := .float } := by
    have hrnd : (startBackOff r (withdraw r s)).rnd = s.rnd := (by cases r <;> rfl : _ = (withdraw r s).rnd).trans (round_withdraw r s)
    exact ((shares_withdraw r s).trans (shares_startBackOff r _)).trans (.of_idle (.refl _) (by rw [hrnd]; exact hx) rfl rfl rfl)
  unfold stopClaim
  split
  · exact hback
  · exact hback
  all_goals exact .refl s

theorem shares_stopActs (s : State) : SharesKept s (stopActs s) := by
  unfold stopActs
  split
  case h_1 hx | h_2 hx => exact (shares_startBackOff _ _).after (.of_idle (.refl _) (by rw [hx]; rfl) rfl rfl rfl)
  case h_3 hx | h_4 hx => exact shares_stopClaim (by rw [hx]; rfl) _
  case h_5 => exact .ite (fun _ => shares_prepareEnds _ _ s) fun _ => .refl s
  case h_6 | h_7 => exact .ite (fun _ => shares_goBack _ _ s) fun _ => .refl s
  case h_8 => exact .ite (fun _ => shares_deferCause _ s) fun _ => .refl s
  case h_9 hx => exact .ite (fun _ => shares_wateringEnds (by rw [hx]; rfl) _ _) fun _ => .refl s
  all_goals exact .refl s

theorem shares_clearLatches (s : State) : SharesKept s (clearLatches s) := by
  unfold clearLatches
  dsimp only
  refine .ite (fun hx => .of_idle (.refl _) (by rw [hx]; rfl) rfl rfl rfl) fun _ => .ite (fun _ => ?_) fun _ =>
    .of_rnd rfl rfl rfl rfl rfl
  exact (((shares_enterTransferBack _).trans (shares_commandFloatWithCheck _ _))).after (.of_rnd rfl rfl rfl rfl rfl)

/-! ### The hold, and the line left -/

theorem sharesInOrder_claimHeld_eq (h : SharesInOrder s) (hx : s.rnd.round = .claiming) :
    SharesInOrder (claimHeld .eq s) := by
  have happlied : s.rnd.applied = 0 := by
    by_contra hne
    have := h.regulated hne
    simp [hx] at this
  have hheld : SharesInOrder
      { s with
        clm := { s.clm with
                 eq := { s.clm.eq with state := .held, windowTimer := none, yielding := false }
                 history := []
                 lowRun := 0 }
        rnd := { s.rnd with
                 round := .prepare
                 record := some { kind := .equalise, outcome := none, cause := none, openedAt := s.now }
                 demand := true
                 chargerWait := some (s.now + chargerWaitUs)
                 pending := s.clm.eq.share
                 pendingValid := true } } :=
    ⟨fun _ _ => rfl, fun _ hv => (nomatch hv), fun _ => rfl, fun ha => absurd happlied ha⟩
  unfold claimHeld enterPrepare
  dsimp only
  split
  · exact (shares_enterTransferOut rfl).order hheld
  · exact hheld

theorem shares_claimHeld_water (hx : s.rnd.round = .waterClaiming) : SharesKept s (claimHeld .water s) := by
  unfold claimHeld enterWatering
  dsimp only
  refine (shares_startGroups _ ?_).after (.of_idle (.refl _) (by rw [hx]; rfl) rfl rfl rfl)
  rfl

theorem shares_roundLeavesLine (cause : AbortCause) (s : State) : SharesKept s (roundLeavesLine cause s) := by
  unfold roundLeavesLine
  split
  case h_1 hx | h_2 hx | h_3 hx | h_4 hx => exact .of_idle (.refl _) (by rw [hx]; rfl) rfl rfl rfl
  case h_5 => exact shares_prepareEnds _ _ s
  case h_6 => exact (shares_backWithCheck _ _ _ _).after (.of_rnd rfl rfl rfl rfl rfl)
  case h_7 | h_8 =>
    exact ((shares_fixOutcome _ _ s).trans (shares_enterTransferBack _)).trans (shares_commandFloatWithWindow rfl)
  case h_9 hx => exact .ite (fun _ => shares_commandFloatWithWindow (by rw [hx]; rfl)) fun _ => .refl s
  case h_10 hx => exact shares_wateringEnds (by rw [hx]; rfl) _ _
  all_goals exact .refl s

theorem shares_leaveLine (mode : NodeMode) (cause : AbortCause) (s : State) : SharesKept s (leaveLine mode cause s) := by
  unfold leaveLine
  dsimp only
  generalize hq : ({ s with cfg.mode := mode, cfg.joiningTimer := none, clm.statusTimer := none, lin.attempt := none,
                            lin.recovering := false, lin.isolationTimer := none } : State) = q
  have hs : SharesKept s q := by
    subst hq
    exact .of_rnd rfl rfl rfl rfl rfl
  have hv := hs.trans (shares_roundLeavesLine cause q)
  generalize roundLeavesLine cause q = v at hv
  exact hv.trans (.of_same (.of_not_held (by simp [dropClaims, ClaimMachine.drop])) rfl rfl rfl rfl rfl)

theorem shares_countRetry (s : State) : SharesKept s (countRetry s) := by
  obtain ⟨-, he⟩ | ⟨-, -, he⟩ | ⟨-, -, he⟩ := countRetry_cases s
  · rw [he]
    exact .of_rnd rfl rfl rfl rfl rfl
  · rw [he]
    exact shares_leaveLine _ _ s
  · rw [he]
    exact .of_rnd rfl rfl rfl rfl rfl

theorem shares_checkStartUp (s : State) : SharesKept s (checkStartUp s) := by
  unfold checkStartUp leaveStarting
  dsimp only
  split_ifs <;> exact .of_rnd rfl rfl rfl rfl rfl

theorem shares_acts (s : State) : ActsKeep (SharesKept s) s where
  hold m := by
    unfold actHold
    dsimp only
    split_ifs
    · exact (shares_requestStatus _).after (.of_rnd rfl rfl rfl rfl rfl)
    · exact .refl s
    · exact (shares_requestStatus _).after (.of_rnd rfl rfl rfl rfl rfl)
    · refine (shares_requestStatus _).after (.trans ((shares_holdMachine .eq s).trans (shares_holdMachine .water _)) ?_)
      exact .of_rnd rfl rfl rfl rfl rfl
    · exact .refl s
  stop _ := .ite (fun _ => (shares_stopActs s).trans (shares_requestStatus _)) fun _ => .refl s
  forceEq _ := .ite (fun _ => (shares_requestStatus _).after (.of_rnd rfl rfl rfl rfl rfl)) fun _ => .refl s
  forceWater _ := .ite (fun _ => (shares_requestStatus _).after (.of_rnd rfl rfl rfl rfl rfl)) fun _ => .refl s
  clear _ := .ite (fun _ => (shares_clearLatches s).trans (shares_requestStatus _)) fun _ => .refl s
  query _ := .ite (fun _ => .of_rnd rfl rfl rfl rfl rfl) fun _ => .refl s

theorem shares_hearFrame {c : Instr} {after : Nat} {frame : List Byte} (hc : FrameCommand c after frame) (s : State) :
    SharesKept s (hearFrame frame (frameReader c) s) := by
  have hends : SharesKept s (frameEnds s) := .of_rnd rfl rfl rfl rfl rfl
  refine hearFrame_induction frame _ (.refl s) (.of_rnd rfl rfl rfl rfl rfl) hends
    (fun _ => hends.trans (shares_leaveLine _ _ _)) fun n _ _ _ => hends.trans ?_
  exact frameReader_induction hc n (.refl _) (fun _ => .of_rnd rfl rfl rfl rfl rfl)
    (fun before after => shares_peerUpdated before after _) (shares_acts _)

theorem shares_levelEdge (i : LevelInput) (toActive : Bool) (s : State) : SharesKept s (levelEdge i toActive s) := by
  unfold levelEdge
  split
  · exact shares_fbToEqualise s
  · exact shares_fbToFloat s
  · exact .ite (fun hx => shares_enterTransferOut hx) fun _ => .refl s
  · unfold chargerLost
    split
    case h_1 | h_2 => exact shares_goBack _ _ s
    case h_3 => exact shares_deferCause _ s
    all_goals exact .refl s
  · exact .ite (fun _ => .of_rnd rfl rfl rfl rfl rfl) fun _ => .refl s
  · exact .refl s

theorem LineStep.sharesKept (k : LineStep s t) : SharesKept s t := by
  have hframe {t : State} (k : LineFrame s t) : SharesKept s t :=
    .of_rnd (by rw [k.clm]) (by rw [k.rnd]) (by rw [k.rnd]) (by rw [k.rnd]) (by rw [k.rnd])
  cases k with
  | own k => exact hframe k
  | failed k => exact (hframe k).trans (shares_countRetry _)
  | sent k => exact (hframe k).trans (shares_completed _ _)
  | startUp k => exact (hframe k).trans (shares_checkStartUp _)

/-! ### Every command -/

/-- What the obligation asks of a command: the shares in order, and a claim that stays HELD as it was or smaller. -/
def HeldKept (s t : State) : Prop :=
  SharesInOrder t ∧
    (s.clm.eq.state = .held → t.clm.eq.state = .held →
      t.clm.eq.tag = s.clm.eq.tag ∧ t.clm.eq.snapshot = s.clm.eq.snapshot ∧ t.clm.eq.share ≤ s.clm.eq.share)

theorem SharesKept.heldKept (k : SharesKept s t) (h : SharesInOrder s) : HeldKept s t :=
  ⟨k.order h, fun _ hh => (k.claim hh).2⟩

theorem exec_heldKept (c : Instr) (hc : Coherent s) (h : SharesInOrder s) : Completes (HeldKept s) (exec c s) := by
  have hkept {t : State} (k : SharesKept s t) : HeldKept s t := k.heldKept h
  have hself : HeldKept s s := hkept (.refl s)
  have hsame {t : State} (heq : t.clm.eq = s.clm.eq) (hrnd : t.rnd = s.rnd) : SharesKept s t :=
    .of_rnd heq (by rw [hrnd]) (by rw [hrnd]) (by rw [hrnd]) (by rw [hrnd])
  have hline {t : State} (heq : t.clm.eq = s.clm.eq) (hrnd : t.rnd = s.rnd) : HeldKept s t := hkept (hsame heq hrnd)
  have hreached {d : Nat} {t : State} (k : SharesKept (s.reach d) t) : HeldKept s t := hkept (k.after (hsame rfl rfl))
  have hback (hx : s.rnd.round = .transferBack) : workingEqualise s.rnd.round = false := by rw [hx]; rfl
  have hwater (hx : s.rnd.round = .watering) : workingEqualise s.rnd.round = false := by rw [hx]; rfl
  cases c with
  | reset => exact .of_next ⟨.of_cleared rfl rfl rfl, fun _ hh => nomatch hh⟩
  | statusNotice after frame | claimNotice after frame | releaseNotice after frame | reportNotice after frame
  | hold after frame | stop after frame | forceEq after frame | forceWater after frame | clear after frame
  | query after frame =>
    exact completes_frameCommand (after := after) (frame := frame) (by simp [FrameCommand]) fun hf =>
      hkept ((shares_hearFrame hf _).after (hsame rfl rfl))
  | sampleSet words => exact completes_expiry hself fun d _ => hreached (shares_deliverSampleSet words _)
  | scanStart | hourExpiry | rawLevelChange | flowEdge | pwmPeriodStart =>
    exact .of_next (hline rfl rfl)
  | contentionWindowExpiry r =>
    refine completes_expiry hself fun d hd => ?_
    have hp := (hc.sound_machine r).window.mp (by rw [hd]; rfl)
    have hx := (hc.pending_iff r).mp (.inr hp)
    show HeldKept s (if holdCheck r (s.reach d) then _ else _)
    split
    · cases r
      · refine ⟨sharesInOrder_claimHeld_eq (s := s.reach d) ⟨h.1, h.2, h.3, h.4⟩ hx, fun hh => ?_⟩
        cases (show s.clm.eq.state = .contending from hp).symm.trans hh
      · exact hreached (shares_claimHeld_water hx)
    · exact hreached ((shares_withdraw r _).trans (shares_backToDue r _))
  | backOffExpiry r => exact completes_expiry hself fun d _ => hline (by cases r <;> rfl) rfl
  | chargerWaitExpiry => exact completes_expiry hself fun d _ => hreached (shares_prepareEnds _ _ _)
  | transferWindowExpiry =>
    exact completes_expiry hself fun d _ => hkept ((shares_transferLate _).after (.of_rnd rfl rfl rfl rfl rfl))
  | recoveryCheckExpiry =>
    show Completes _ (execRecoveryCheckExpiry s)
    unfold execRecoveryCheckExpiry
    split
    · next k hk => exact .of_next (hreached (shares_enterStuck (hback (hc.recoveryCheck (by rw [hk]; rfl)))))
    · exact .of_next hself
  | currentWaitExpiry =>
    exact completes_expiry hself fun d hd =>
      hreached (shares_commandFloatWithWindow (hback (hc.currentWait (by rw [hd]; rfl)).1))
  | restPeriodExpiry =>
    refine completes_expiry hself fun d hd => hkept ?_
    have hx := hc.rest.mp (by rw [hd]; rfl)
    exact .of_idle (.refl _) (by rw [hx]; rfl) (by simp [hx]; rfl) rfl rfl
  | flowWindowExpiry =>
    exact completes_expiry hself fun d hd =>
      hreached (shares_flowWindowPasses (hwater (hc.wateringTimers (by simp [hd]))))
  | openPeriodExpiry | dryLatchExpiry | earlyFlowLimitExpiry => exact completes_expiry hself fun d _ => hline rfl rfl
  | drainGraceExpiry | offTimeExpiry =>
    refine completes_expiry hself fun d hd => hkept ?_
    by_cases hcl : s.wat.closedPeriod = true
    · refine (shares_checkClosedPeriod ?_).after (hsame rfl rfl)
      exact hwater (hc.wateringTimers (by simp [hcl]))
    · unfold checkClosedPeriod
      rw [if_neg (by simp [hcl])]
      exact hsame rfl rfl
  | roundLimitExpiry =>
    exact completes_expiry hself fun d hd =>
      hreached (shares_wateringEnds (s := s.reach d) (hwater (hc.wateringTimers (by simp [hd]))) _ _)
  | stabilityTimerExpiry i =>
    refine completes_expiry hself fun d _ => hkept ?_
    unfold levelStands
    exact .ite (fun _ => hsame rfl rfl) fun _ => (shares_levelEdge _ _ _).after (hsame rfl rfl)
  | flowTimerExpiry =>
    refine completes_expiry hself fun d _ => hkept ?_
    unfold flowTimerEnds
    dsimp only
    split
    · exact (shares_flowPulse _).after (hsame rfl rfl)
    all_goals exact hsame rfl rfl
  | strapsSettled | configurationRead | selfTest | lineBreak | framingError | lineIdle | dominantCount | attemptStart
  | arbitrationLost | bitError | attemptComplete | frameAbandoned | frameDiscarded | recoveryAttempt =>
    exact (exec_lineStep rfl s).imp fun t k => hkept k.sharesKept
  | joiningTimerExpiry => exact completes_expiry hself fun _ _ => hline rfl rfl
  | statusPeriodExpiry | holdTimerExpiry =>
    exact completes_expiry hself fun _ _ => hkept ((shares_requestStatus _).after (hsame rfl rfl))

/-- Settles O10: every command keeps the shares in order and lets no HELD claim grow. -/
theorem heldShareNeverGrows : Obligations.HeldShareNeverGrows := fun s _ hc h ht =>
  step_of_exec (P := HeldKept s) ((SharesKept.refl s).heldKept h)
    (fun c _ _ => exec_heldKept c (hc.congr ⟨rfl, rfl⟩ rfl rfl rfl (.inl rfl)) ⟨h.1, h.2, h.3, h.4⟩) ht

end Sys2Proof.Machine
end

section
/-! SUPPORT. The reset state, the output pins and the end of start-up. -/

namespace Sys2Proof.Machine

variable {s t u : State}

/-! ### The reset state -/

theorem configInRange_defaults : ConfigInRange builtInDefaults := by
  constructor <;> decide

theorem resetChannel_inRange {lo hi : Int} (hlo : lo ≤ 0) (hhi : 0 ≤ hi) : resetChannel.InRange lo hi :=
  ⟨⟨hlo, hhi⟩, fun h => (nomatch h), fun h => (nomatch h), fun _ => ⟨rfl, by decide⟩, fun _ => rfl⟩

theorem valuesInRange_reset : ValuesInRange State.reset where
  config := configInRange_defaults
  channels :=
    { blocs := ⟨rfl, fun c hc => (List.eq_of_mem_replicate hc) ▸ resetChannel_inRange (by decide) (by decide)⟩
      current := resetChannel_inRange (by decide) (by decide)
      voltage := resetChannel_inRange (by decide) (by decide)
      pilot := resetChannel_inRange (by decide) (by decide)
      ambient := resetChannel_inRange (by decide) (by decide)
      stale := by decide
      monitors := rfl }
  spread := ⟨fun d hd => (nomatch hd), by decide, by decide, by decide⟩
  account := by constructor <;> decide
  eq := by constructor <;> decide
  water := by constructor <;> decide
  nextTag := by decide
  sentTag := fun a r n ha => (nomatch ha)
  retry := by decide
  duty := by decide
  timers := by decide
  history := by decide
  shares := by decide
  idle := idleTimer_le _
  groups := fun r hr => (List.eq_of_mem_replicate hr) ▸ by decide
  noFlow := by decide
  lists := ⟨rfl, rfl⟩
  records := fun l hl => by simp [State.reset] at hl
  unread := fun _ => ⟨rfl, rfl, fun c hc => by rcases hc with rfl | rfl | rfl | rfl <;> rfl⟩

theorem sharesInOrder_reset : SharesInOrder State.reset :=
  ⟨fun h => (nomatch h), fun h => (nomatch h), fun h => (nomatch h), fun h => absurd rfl h⟩

/-- Settles O5, from what a reset leaves: no claim, a float round, an empty table and every value at its reset value. -/
theorem resetMeetsInvariants : Obligations.ResetMeetsInvariants :=
  ⟨(modesKept_afterReset State.reset).line rfl rfl rfl rfl (.inl rfl),
    (coherent_afterReset State.reset).congr ⟨rfl, rfl⟩ rfl rfl rfl (.inl rfl),
    ⟨.nil, fun _ hp => (nomatch hp), fun _ => rfl⟩, valuesInRange_reset, sharesInOrder_reset⟩

/-- Before conditioning every line of the part is inactive, its timer stopped, its pin where the outside has it. -/
theorem line_afterReset (s : State) (i : LevelInput) : (afterReset s).fld.line i = (s.fld.line i).afterReset := by
  cases i with
  | fb | crdy => rfl
  | prb g =>
    show (s.fld.probes.map LevelLine.afterReset).getD g.val resetLine = (s.fld.probes.getD g.val resetLine).afterReset
    rw [List.getD_eq_getElem?_getD, List.getD_eq_getElem?_getD, List.getElem?_map]
    cases s.fld.probes[g.val]? <;> rfl

theorem channels_afterReset (s : State) {c : Channel}
    (hc : c ∈ (afterReset s).scn.blocs ∨ c = (afterReset s).scn.current ∨ c = (afterReset s).scn.voltage ∨
      c = (afterReset s).scn.pilot ∨ c = (afterReset s).scn.ambient) : c = resetChannel := by
  rcases hc with hmem | hc | hc | hc | hc
  · exact List.eq_of_mem_replicate hmem
  all_goals exact hc

/-- Settles O4, block by block from the reset state. -/
theorem resetRestartsThePart : Obligations.ResetRestartsThePart := by
  refine ⟨rfl, fun s => ⟨afterReset s, rfl, rfl, rfl, rfl, rfl, rfl, ⟨rfl, rfl, rfl, rfl, rfl, rfl, rfl, rfl⟩,
    ⟨rfl, rfl, rfl, fun c hc => channels_afterReset s hc⟩,
    ⟨rfl, rfl, rfl, rfl, rfl, rfl, rfl, rfl, rfl, rfl, rfl, rfl, rfl, rfl, rfl, rfl, rfl⟩,
    ⟨fun m hm => ?_, rfl, rfl, rfl, rfl, rfl, rfl, rfl, rfl, rfl, rfl⟩, ⟨rfl, rfl, rfl, rfl, ?_, rfl, rfl⟩,
    ⟨rfl, rfl, rfl, rfl⟩, fun r => ?_, ⟨rfl, rfl, rfl, rfl, rfl⟩,
    ⟨rfl, rfl, rfl, rfl, rfl, rfl, rfl, rfl, rfl, rfl, rfl, rfl, rfl, rfl, rfl, rfl, rfl, rfl, rfl, rfl, rfl⟩,
    ⟨rfl, rfl, fun g => ?_, rfl, rfl, rfl, rfl, rfl, rfl, rfl, rfl, rfl, rfl, rfl⟩,
    ⟨rfl, rfl, rfl, rfl, rfl, rfl, rfl, rfl, rfl, rfl, fun i => ⟨rfl, ?_⟩⟩⟩⟩
  · cases List.eq_of_mem_replicate hm
    exact ⟨rfl, rfl, rfl⟩
  · rfl
  · cases r <;> exact ⟨rfl, rfl, rfl, rfl⟩
  · have hgroups : ∀ k < 8, (List.replicate 8 resetGroup).getD k resetGroup = resetGroup := by decide
    exact hgroups g.val g.isLt
  · rw [line_afterReset]
    exact ⟨rfl, rfl, rfl⟩

/-! ### The output pins -/

/-- A bit of a frame is dominant: a start bit, or a clear data bit. -/
theorem byteBits_dominant_iff (b : Byte) {j : Nat} (hj : j < 10) :
    (byteBits b)[j]? = some false ↔ j = 0 ∨ (1 ≤ j ∧ j ≤ 8 ∧ b.getLsbD (8 - j) = false) := by
  interval_cases j <;> simp [byteBits]

theorem txd_dominant_iff (s : State) : s.txdHigh = false ↔
    ∃ (a : Attempt) (i j : Nat) (b : Byte), s.lin.attempt = some a ∧ a.frame[i]? = some b ∧
      (s.now - a.start) * 19200 / 1000000 = 10 * i + j ∧
      (j = 0 ∨ (1 ≤ j ∧ j ≤ 8 ∧ b.getLsbD (8 - j) = false)) := by
  cases ha : s.lin.attempt with
  | none => simp [State.txdHigh, ha]
  | some a =>
    have hbit : s.txdHigh = false ↔ (frameBits a.frame)[(s.now - a.start) * 19200 / 1000000]? = some false := by
      simp only [State.txdHigh, ha]
      show ((frameBits a.frame)[(s.now - a.start) * 19200 / 1000000]?).getD true = false ↔ _
      cases (frameBits a.frame)[(s.now - a.start) * 19200 / 1000000]? <;> simp
    rw [hbit]
    rw [frameBits_getElem?]
    constructor
    · intro h
      obtain ⟨b, hb, hk⟩ := Option.bind_eq_some_iff.mp h
      exact ⟨a, _, _, b, rfl, hb, (Nat.div_add_mod _ 10).symm, (byteBits_dominant_iff b (by omega)).mp hk⟩
    · rintro ⟨_, i, j, b, ⟨⟩, hb, hk, hj⟩
      have hlt : j < 10 := by omega
      rw [hk, show (10 * i + j) / 10 = i by omega, show (10 * i + j) % 10 = j by omega, hb]
      exact (byteBits_dominant_iff b hlt).mpr hj

/-- The 24 bits of the read request, by their place. -/
theorem requestBit_eq (s : State) (i : Nat) (hi : i = s.now / 4) :
    (s.cfg.readEnded = false → i < 24 → s.requestBit = some (0x030000#24 |>.getMsbD i)) ∧
      (s.cfg.readEnded = true ∨ 24 ≤ i → s.requestBit = none) := by
  have hbits : ∀ k < 24, (memoryRequest.flatMap fun b => (List.range 8).map fun i => b.getMsbD i)[k]? =
      some (0x030000#24 |>.getMsbD k) := by decide
  have hlink : s.now / linkBitUs = i := hi.symm
  unfold State.requestBit
  rw [hlink]
  refine ⟨fun hread hlt => ?_, fun h => ?_⟩
  · rw [if_neg (by simp [hread])]
    exact hbits i hlt
  · split_ifs with hread
    · rfl
    · exact List.getElem?_eq_none (h.resolve_left hread)

/-- Settles O3, from each pin's definition and, for the last part, from the invariant of O7. -/
theorem outputsFollowTheState : Obligations.OutputsFollowTheState := by
  intro s
  refine ⟨by simp [State.rly], fun g => by simp [State.vlv], by simp [State.dmd], by simp [State.alm, or_assoc],
    fun h => ?_, fun h => ?_, fun count hc => ?_, txd_dominant_iff s, Iff.rfl, by simp [State.secondSelect],
    fun h hboth => ?_, requestBit_eq s, fun h => ⟨fun hrly => ?_, fun g hg => ?_, fun hlim => ?_, fun hstuck => ?_⟩⟩
  · simp [State.almDrivenLow, h.1, h.2]
  · obtain h | h := h <;> simp [State.almDrivenLow, h]
  · simp [State.lim, hc]
  · obtain ⟨hfirst, hsecond⟩ := hboth
    have hread : s.cfg.readEnded = false := by simpa [State.secondSelect] using hsecond
    obtain ⟨hscan, -, -⟩ := h.unread hread
    rw [State.firstSelect, hscan] at hfirst
    exact absurd hfirst (by decide)
  · obtain hr | hr | hr | hr := h.relay (of_decide_eq_true hrly)
    · exact h.working (by rw [hr]; rfl)
    · exact h.working (by rw [hr]; rfl)
    · exact h.working (by rw [hr]; rfl)
    · exact (h.currentWait hr).2
  · have hopen : s.wat.valve = some g := of_decide_eq_true hg
    have hround := (h.valve g hopen).1
    refine ⟨hround, h.waterHeld.mpr hround, fun g' hg' => ?_⟩
    have hopen' : s.wat.valve = some g' := of_decide_eq_true hg'
    exact Option.some.inj (hopen'.symm.trans hopen)
  · have hlt : s.now - s.fld.pwmStart < s.fld.pwmDuty := of_decide_eq_true hlim
    exact h.duty (h.limiter (by omega))
  · have hdemand : s.rnd.demand = true := h.demand.mpr (by rw [hstuck]; rfl)
    simp [State.dmd, hdemand]

/-! ### The end of start-up -/

theorem addressInSite_iff (s : State) : addressInSite s = true ↔ 1 ≤ s.address ∧ s.address ≤ s.cfg.config.nSite := by
  simp [addressInSite]

/-- The change out of STARTING, by the self-test's result, the address and the configuration's check (R190). -/
theorem leaveStarting_spec (u : State) : StartUpEnded u (leaveStarting u) where
  silent h := by
    have hcond : u.cfg.selfTest = .failed ∨ addressInSite u = false := by
      rw [← Bool.not_eq_true, addressInSite_iff]
      exact h.imp_right (by omega)
    exact if_pos hcond
  monitorOnly hpassed hlow hhigh hfailed := by
    have hcond : ¬ (u.cfg.selfTest = .failed ∨ addressInSite u = false) := by
      rw [← Bool.not_eq_true, addressInSite_iff, hpassed]
      simp [hlow, hhigh]
    exact (if_neg hcond).trans (if_pos hfailed)
  joining hpassed hlow hhigh hfailed := by
    have hcond : ¬ (u.cfg.selfTest = .failed ∨ addressInSite u = false) := by
      rw [← Bool.not_eq_true, addressInSite_iff, hpassed]
      simp [hlow, hhigh]
    exact (if_neg hcond).trans (if_neg (by simp [hfailed]))

theorem checkStartUp_spec {u : State} (hmode : u.cfg.mode = .starting) (ha : u.cfg.address.isSome = true)
    (hended : u.cfg.selfTest = .passed ∨ u.cfg.selfTest = .failed) : StartUpEnded u (checkStartUp u) := by
  have hcond : u.cfg.mode = .starting ∧ u.cfg.address.isSome ∧ u.cfg.selfTest.ended :=
    ⟨hmode, ha, by obtain h | h := hended <;> rw [h] <;> rfl⟩
  rw [checkStartUp, if_pos hcond]
  exact leaveStarting_spec u

theorem SelfTest.ended_iff (x : SelfTest) : x.ended = true ↔ x = .passed ∨ x = .failed := by
  cases x <;> simp [SelfTest.ended]

theorem exec_strapsSettled_early (after : Nat) (straps : BitVec 5) (s : State)
    (h : s.cfg.address.isSome = true ∨ s.fld.strapTimer = none ∨ ∃ d, s.fld.strapTimer = some d ∧ s.now + after < d) :
    exec (.strapsSettled after straps) s = .next (s.elapse after) := by
  show execStrapsSettled after straps s = _
  unfold execStrapsSettled
  dsimp only
  simp only [State.elapse_fld, State.elapse_now, State.elapse_cfg]
  cases ht : s.fld.strapTimer with
  | none => rfl
  | some d =>
    refine if_pos ?_
    obtain h | h | ⟨e, he, hlt⟩ := h
    · exact .inr h
    · simp [ht] at h
    · cases ht.symm.trans he
      exact .inl hlt

theorem exec_strapsSettled_due (after : Nat) (straps : BitVec 5) (s : State) {d : Nat} (ht : s.fld.strapTimer = some d)
    (hd : d ≤ s.now + after) (ha : s.cfg.address = none) :
    exec (.strapsSettled after straps) s =
      .next (checkStartUp { s.elapse after with cfg.address := some straps, fld.strapTimer := none }) := by
  show execStrapsSettled after straps s = _
  unfold execStrapsSettled
  dsimp only
  simp only [State.elapse_fld, State.elapse_now, State.elapse_cfg, ht]
  exact if_neg (by simp [ha, hd])

/-- Settles O11, from the two commands' one common end, `checkStartUp`. -/
theorem startUpEnds : Obligations.StartUpEnds := by
  refine ⟨fun after straps s => ⟨exec_strapsSettled_early after straps s, fun d ht hd ha => ⟨fun hnot => ?_, fun hmode hended =>
    ?_⟩⟩, fun looped s hidle => ?_, fun looped d s result hrun hpass hfail => ?_⟩
  · rw [exec_strapsSettled_due after straps s ht hd ha, checkStartUp, if_neg (by simp [hnot])]
  · exact ⟨_, exec_strapsSettled_due after straps s ht hd ha,
      checkStartUp_spec hmode rfl ((SelfTest.ended_iff _).mp hended)⟩
  · show execSelfTest looped s = _
    unfold execSelfTest
    cases hs : s.cfg.selfTest with
    | running d => exact absurd hs (hidle d)
    | notBegun | passed | failed => rfl
  · have hresult : (if looped = some testFrame then SelfTest.passed else SelfTest.failed) = result := by
      split_ifs with hloop
      · exact (hpass hloop).symm
      · exact (hfail hloop).symm
    have hexec : exec (.selfTest looped) s = .next (checkStartUp { s.reach d with cfg.selfTest := result }) := by
      show execSelfTest looped s = _
      unfold execSelfTest
      rw [hrun, ← hresult]
    have hended : result = .passed ∨ result = .failed := by
      rw [← hresult]
      split_ifs <;> simp
    refine ⟨fun ha => ?_, fun ha hmode => ⟨_, hexec, checkStartUp_spec hmode ha hended⟩⟩
    rw [hexec, checkStartUp, if_neg (by simp [ha])]

end Sys2Proof.Machine
end

section
/-! SUPPORT. The configuration record: its check, the clamps of its fields, the trimming of its cells, the read's end. -/

namespace Sys2Proof.Machine

variable {s t u : State}

/-! ### The check of a record -/

theorem recordPasses_iff (r : List Byte) :
    recordPasses r = true ↔ r.length = 48 ∧ r.drop 46 = crcBytes (r.take 46) ∧ r.head? = some 1#8 := by
  have hhead : r.length = 48 → (recordByte r 0 = 1 ↔ r.head? = some 1#8) := by
    intro hlen
    cases r with
    | nil => simp at hlen
    | cons b r =>
      show b.toNat = 1 ↔ some b = some 1#8
      rw [Option.some.injEq]
      exact ⟨fun h => BitVec.eq_of_toNat_eq h, fun h => h ▸ rfl⟩
  simp only [recordPasses, Bool.and_eq_true, beq_iff_eq, and_assoc]
  constructor
  · rintro ⟨hlen, hcrc, hcode⟩
    exact ⟨hlen, hcrc, (hhead hlen).mp hcode⟩
  · rintro ⟨hlen, hcrc, hcode⟩
    exact ⟨hlen, hcrc, (hhead hlen).mpr hcode⟩

/-! ### The end of the read -/

theorem exec_configurationRead (record : List Byte) {s : State} (h : s.cfg.readEnded = false) :
    exec (.configurationRead record) s =
      .next (if recordPasses record then configure (checkedConfiguration record) false (recordClamped record) (s.reach 1632)
        else configure builtInDefaults true false (s.reach 1632)) := by
  show execConfigurationRead record s = _
  unfold execConfigurationRead
  rw [if_neg (by simp [h])]
  split_ifs <;> rfl

theorem line_startConditioning (c : Configuration) (now : Nat) (f : Fld) (i : LevelInput) :
    (f.startConditioning c now).line i = startConditioning c now i (f.line i) := by
  cases i with
  | fb | crdy => rfl
  | prb g =>
    show (((List.finRange 8).map fun g => startConditioning c now (.prb g) (f.line (.prb g))).getD g.val resetLine) = _
    rw [List.getD_eq_getElem?_getD, List.getElem?_map, List.getElem?_eq_getElem (by simp)]
    simp

theorem line_configure (c : Configuration) (failed clamped : Bool) (s : State) (i : LevelInput) :
    (configure c failed clamped s).fld.line i = startConditioning c s.now i (s.fld.line i) :=
  line_startConditioning c s.now s.fld i

/-- Every input after the read: inactive, its timer at the start of its 20 ms when it is enabled. -/
theorem lines_configure (c : Configuration) (failed clamped : Bool) (s : State) (i : LevelInput) :
    ((configure c failed clamped s).fld.line i).active = false ∧
      ((configure c failed clamped s).fld.line i).pinHigh = (s.fld.line i).pinHigh ∧
      ((configure c failed clamped s).fld.line i).timer = if inputEnabled c i then some (s.now + 20000) else none := by
  rw [line_configure]
  exact ⟨rfl, rfl, rfl⟩

/-- Settles O12, by the check of the record. -/
theorem configurationReadEnds : Obligations.ConfigurationReadEnds := by
  refine fun record s => ⟨fun h => if_pos h, fun h => ⟨_, exec_configurationRead record h, ?_⟩⟩
  simp only [← recordPasses_iff]
  split_ifs with hpass
  · exact ⟨⟨rfl, rfl, rfl⟩, lines_configure _ _ _ _, rfl⟩
  · exact ⟨⟨rfl, rfl, rfl⟩, lines_configure _ _ _ _, rfl⟩

/-! ### Clamping a field -/

theorem clampTo_eq_nearest {lo hi : Nat} (h : lo ≤ hi) (v : Nat) : clampTo lo hi v = nearest lo hi v := by
  unfold clampTo nearest
  split_ifs <;> omega

theorem clampTo_mem {lo hi : Nat} (h : lo ≤ hi) (v : Nat) : lo ≤ clampTo lo hi v ∧ clampTo lo hi v ≤ hi := by
  unfold clampTo
  split_ifs <;> omega

theorem clampTo_of_mem {lo hi v : Nat} (h : lo ≤ v ∧ v ≤ hi) : clampTo lo hi v = v := by
  unfold clampTo
  rw [if_neg (by omega), if_neg (by omega)]

/-! ### Trimming the cells -/

/-- The cells that trimming may take from a list of counts: all but one of each. -/
def spare (l : List Nat) : Nat := (l.map fun n => n - 1).sum

theorem trimCells_left (l : List Nat) (e : Nat) : (trimCells l e).2 = e - spare l := by
  induction l with
  | nil => simp [trimCells, spare]
  | cons n l ih =>
    show (trimCells l e).2 - min (trimCells l e).2 (n - 1) = e - (n - 1 + spare l)
    rw [ih]
    omega

theorem trimCells_cons (n : Nat) (l : List Nat) (e : Nat) :
    (trimCells (n :: l) e).1 = (n - min (n - 1) (e - spare l)) :: (trimCells l e).1 := by
  rw [← trimCells_left, min_comm]
  rfl

theorem trimCells_length (l : List Nat) (e : Nat) : (trimCells l e).1.length = l.length := by
  induction l with
  | nil => rfl
  | cons n l ih => simp [trimCells_cons, ih]

theorem trimCells_getElem? (l : List Nat) (e : Nat) {g : Nat} {n : Nat} (h : l[g]? = some n) :
    (trimCells l e).1[g]? = some (n - min (n - 1) (e - spare (l.drop (g + 1)))) := by
  induction l generalizing g with
  | nil => simp at h
  | cons m l ih =>
    rw [trimCells_cons]
    cases g with
    | zero => cases h; rfl
    | succ g => exact ih h

theorem trimCells_mem (l : List Nat) (e : Nat) (h : ∀ n ∈ l, 1 ≤ n ∧ n ≤ 24) :
    ∀ n ∈ (trimCells l e).1, 1 ≤ n ∧ n ≤ 24 := by
  induction l with
  | nil => simp [trimCells]
  | cons m l ih =>
    rw [trimCells_cons]
    intro n hn
    have hm := h m List.mem_cons_self
    obtain rfl | hn := List.mem_cons.mp hn
    · omega
    · exact ih (fun k hk => h k (List.mem_cons_of_mem m hk)) n hn

theorem spare_add_length {l : List Nat} (h : ∀ n ∈ l, 1 ≤ n) : spare l + l.length = l.sum := by
  induction l with
  | nil => rfl
  | cons m l ih =>
    have hm := h m List.mem_cons_self
    have htail := ih fun k hk => h k (List.mem_cons_of_mem m hk)
    simp only [spare, List.map_cons, List.sum_cons, List.length_cons] at htail ⊢
    omega

/-- The excess comes off as far as there are cells to spare. -/
theorem trimCells_sum (l : List Nat) (e : Nat) (h : ∀ n ∈ l, 1 ≤ n) : (trimCells l e).1.sum + min e (spare l) = l.sum := by
  induction l with
  | nil => simp [trimCells, spare]
  | cons m l ih =>
    have hm := h m List.mem_cons_self
    have htail := ih fun k hk => h k (List.mem_cons_of_mem m hk)
    rw [trimCells_cons, List.sum_cons, List.sum_cons]
    show _ + min e (m - 1 + spare l) = _
    omega

theorem trimCells_of_no_excess (l : List Nat) : (trimCells l 0).1 = l := by
  induction l with
  | nil => rfl
  | cons m l ih => rw [trimCells_cons, ih]; simp

/-! ### The checked configuration in its ranges -/

theorem map_clampTo_mem (l : List Nat) : ∀ n ∈ l.map (clampTo 1 24), 1 ≤ n ∧ n ≤ 24 := by
  intro n hn
  obtain ⟨m, -, rfl⟩ := List.mem_map.mp hn
  exact clampTo_mem (by decide) m

theorem clampCells_inRange {groups blocs : Nat} {cells : List Nat} (hcells : groups ≤ cells.length) (hblocs : groups ≤ blocs) :
    (clampCells groups blocs cells).length = groups ∧ (∀ n ∈ clampCells groups blocs cells, 1 ≤ n ∧ n ≤ 24) ∧
      (clampCells groups blocs cells).sum ≤ blocs := by
  have heach := map_clampTo_mem (cells.take groups)
  have hlen : ((cells.take groups).map (clampTo 1 24)).length = groups := by simp [hcells]
  unfold clampCells
  dsimp only
  generalize (cells.take groups).map (clampTo 1 24) = each at heach hlen
  refine ⟨(trimCells_length _ _).trans hlen, trimCells_mem _ _ heach, ?_⟩
  have hsum := trimCells_sum each (each.sum - blocs) fun n hn => (heach n hn).1
  have hspare := spare_add_length fun n hn => (heach n hn).1
  omega

theorem clampCells_of_inRange {groups blocs : Nat} {cells : List Nat} (heach : ∀ n ∈ cells.take groups, 1 ≤ n ∧ n ≤ 24)
    (hsum : (cells.take groups).sum ≤ blocs) : clampCells groups blocs cells = cells.take groups := by
  have hsame : (cells.take groups).map (clampTo 1 24) = cells.take groups :=
    (List.map_congr_left fun n hn => clampTo_of_mem (heach n hn)).trans (List.map_id' _)
  unfold clampCells
  dsimp only
  rw [hsame, Nat.sub_eq_zero_of_le hsum, trimCells_of_no_excess]

/-- What the clamp of a configuration gives lies in its ranges, where it names cells enough. -/
theorem configInRange_clamp (c : Configuration) (hcells : 8 ≤ c.cells.length) : ConfigInRange (clampConfiguration c) := by
  have hsite := clampTo_mem (lo := 2) (hi := 24) (by decide) c.nSite
  have hok := clampTo_mem (lo := 5) (hi := 200) (by decide) c.sOk
  have hblocs := clampTo_mem (lo := 4) (hi := 24) (by decide) c.blocCount
  have hgroups := clampTo_mem (lo := 1) (hi := min 8 (clampTo 4 24 c.blocCount)) (by omega) c.groupCount
  constructor
  case cells => exact clampCells_inRange (by omega) (by omega)
  case rMin => exact clampTo_mem (hi := clampTo 2 24 c.nSite - 1) (by omega) c.rMin
  case sBad => exact clampTo_mem (lo := clampTo 5 200 c.sOk + 10) (by omega) c.sBad
  case groupCount => exact hgroups
  all_goals exact clampTo_mem (by decide) _

/-- A configuration stands under the clamp exactly when it lies in its ranges; its cell counts above G do not matter. -/
theorem clampConfiguration_eq_iff (c : Configuration) (hcells : 8 ≤ c.cells.length) :
    clampConfiguration c = { c with cells := c.cells.take (clampConfiguration c).groupCount } ↔
      ConfigInRange { c with cells := c.cells.take c.groupCount } := by
  constructor
  · intro h
    have hgroups : (clampConfiguration c).groupCount = c.groupCount := (congrArg Configuration.groupCount h :)
    rw [hgroups] at h
    exact h ▸ configInRange_clamp c hcells
  · intro h
    obtain ⟨nSite, rMin, eBus, capacity, eta, shareDivisor, intervalDays, turnoverLimit, sOk, sBad, dv, vhi, vlo, holdMinutes,
      minHours, restHours, maxHours, wth, blocCount, groupCount, ⟨-, heach, hsum⟩, onSeconds, offSeconds, vFlow, period,
      window⟩ := h
    dsimp only at *
    unfold clampConfiguration
    simp only [clampTo_of_mem nSite, clampTo_of_mem rMin, clampTo_of_mem eBus, clampTo_of_mem capacity, clampTo_of_mem eta,
      clampTo_of_mem shareDivisor, clampTo_of_mem intervalDays, clampTo_of_mem turnoverLimit, clampTo_of_mem sOk,
      clampTo_of_mem sBad, clampTo_of_mem dv, clampTo_of_mem vhi, clampTo_of_mem vlo, clampTo_of_mem holdMinutes,
      clampTo_of_mem minHours, clampTo_of_mem restHours, clampTo_of_mem maxHours, clampTo_of_mem wth,
      clampTo_of_mem onSeconds, clampTo_of_mem offSeconds, clampTo_of_mem vFlow, clampTo_of_mem period,
      clampTo_of_mem window, clampTo_of_mem blocCount, clampTo_of_mem groupCount, clampCells_of_inRange heach hsum]

/-! ### The fields of a record -/

theorem recordBit_iff (r : List Byte) (i b : Nat) : recordBit r i b = true ↔ byteAt r i / 2 ^ b % 2 = 1 := by
  unfold recordBit byteAt
  rw [← BitVec.testBit_toNat, Nat.testBit_eq_decide_div_mod_eq, decide_eq_true_iff]

theorem byteAt_lt (r : List Byte) (i : Nat) : byteAt r i < 256 := (r.getD i 0#8).isLt

theorem selectionOf_selects {code : Nat} : Selects code (selectionOf code) := by
  constructor
  · rintro rfl; rfl
  · rintro rfl; rfl
  · rintro (rfl | rfl) <;> rfl

theorem selectionListed_iff {code : Nat} (h : code < 4) : selectionListed code = true ↔ code ≠ 0 := by
  interval_cases code <;> decide

/-- The cell counts of the groups in use are the record's bytes from byte 29 on. -/
theorem rawCells_take (r : List Byte) {groups : Nat} (hlen : r.length = 48) (h8 : groups ≤ 8) :
    (rawConfiguration r).cells.take groups = (List.range groups).map fun g => byteAt r (29 + g) := by
  refine List.ext_getElem? fun g => ?_
  show ((((r.drop 29).take 8).map BitVec.toNat).take groups)[g]? = _
  by_cases hg : g < groups
  · rw [List.getElem?_take_of_lt hg, List.getElem?_map, List.getElem?_take_of_lt (by omega), List.getElem?_drop,
      List.getElem?_map, List.getElem?_range hg, List.getElem?_eq_getElem (by omega)]
    show some _ = some ((r.getD (29 + g) 0#8).toNat)
    rw [List.getD_eq_getElem?_getD, List.getElem?_eq_getElem (by omega)]
    rfl
  · rw [List.getElem?_eq_none (by simp; omega), List.getElem?_eq_none (by simp; omega)]

theorem rawCells_length (r : List Byte) (hlen : r.length = 48) : (rawConfiguration r).cells.length = 8 := by
  show (((r.drop 29).take 8).map BitVec.toNat).length = 8
  simp [hlen]

/-- The cells of a checked record: each byte clamped, the excess over B taken off from the last group down. -/
theorem checkedCells_spec (r : List Byte) (hlen : r.length = 48) {groups blocs : Nat} (h8 : groups ≤ 8) (n : Nat → Nat)
    (excess : Nat) (hn : ∀ g, n g = nearest 1 24 (byteAt r (29 + g)))
    (he : excess = ((List.range groups).map n).sum - blocs) :
    (clampCells groups blocs (rawConfiguration r).cells).length = groups ∧
      ∀ g, g < groups → (clampCells groups blocs (rawConfiguration r).cells)[g]? =
        some (n g - min (n g - 1) (excess - (((List.range groups).drop (g + 1)).map fun h => n h - 1).sum)) := by
  have heach : ((rawConfiguration r).cells.take groups).map (clampTo 1 24) = (List.range groups).map n := by
    rw [rawCells_take r hlen h8, List.map_map]
    exact List.map_congr_left fun g _ => (clampTo_eq_nearest (by decide) _).trans (hn g).symm
  unfold clampCells
  dsimp only
  rw [heach, ← he]
  refine ⟨by simp [trimCells_length], fun g hg => ?_⟩
  rw [trimCells_getElem? _ _ (n := n g) (by simp [hg]), spare, ← List.map_drop, List.map_map]
  rfl

/-- Every field of a checked record is the record's own, brought to the nearer limit (R192, R201). -/
theorem checkedConfiguration_checkedFrom (r : List Byte) (hlen : r.length = 48) :
    CheckedFrom r (checkedConfiguration r) := by
  have hrange := configInRange_clamp (rawConfiguration r) (rawCells_length r hlen).ge
  have hbyte := byteAt_lt r 21
  constructor
  case rMin => exact clampTo_eq_nearest (hrange.rMin.1.trans hrange.rMin.2) _
  case sBad => exact clampTo_eq_nearest (hrange.sBad.1.trans hrange.sBad.2) _
  case groupCount => exact clampTo_eq_nearest (hrange.groupCount.1.trans hrange.groupCount.2) _
  case wth => exact (clampTo_eq_nearest (by decide) _).trans (congrArg _ (Nat.add_assoc _ _ _))
  case selections =>
    rw [Nat.mod_eq_of_lt (by omega : byteAt r 21 / 64 < 4)]
    exact ⟨selectionOf_selects, selectionOf_selects, selectionOf_selects⟩
  case outputs => exact ⟨recordBit_iff r 21 1, (recordBit_iff r 21 0).trans (by rw [pow_zero, Nat.div_one])⟩
  case cells =>
    exact fun n excess hn he => checkedCells_spec r hlen (hrange.groupCount.2.trans (Nat.min_le_left _ _)) n excess hn he
  case probes =>
    refine fun g _ => ⟨?_, ?_⟩
    · exact recordBit_iff r 43 g
    · exact recordBit_iff r 44 g
  case enables => exact ⟨recordBit_iff r 45 5, recordBit_iff r 45 4, recordBit_iff r 45 3⟩
  case inverts => exact ⟨recordBit_iff r 45 2, recordBit_iff r 45 1, (recordBit_iff r 45 0).trans (by rw [pow_zero, Nat.div_one])⟩
  all_goals exact clampTo_eq_nearest (by decide) _

/-- The clamped flag stays clear for fields in range and listed selections, and for nothing else (R192). -/
theorem recordClamped_false_iff (r : List Byte) : recordClamped r = false ↔
    checkedConfiguration r =
        { rawConfiguration r with cells := (rawConfiguration r).cells.take (checkedConfiguration r).groupCount } ∧
      ∀ d, d = 64 ∨ d = 16 ∨ d = 4 → recordByte r 21 / d % 4 ≠ 0 := by
  have hbyte : recordByte r 21 < 256 := byteAt_lt r 21
  have hlisted : (selectionListed (recordByte r 21 / 64) && selectionListed (recordByte r 21 / 16 % 4) &&
      selectionListed (recordByte r 21 / 4 % 4)) = true ↔ ∀ d, d = 64 ∨ d = 16 ∨ d = 4 → recordByte r 21 / d % 4 ≠ 0 := by
    simp only [Bool.and_eq_true, selectionListed_iff (show recordByte r 21 / 64 < 4 by omega),
      selectionListed_iff (Nat.mod_lt _ (by decide : 0 < 4)), and_assoc]
    constructor
    · rintro ⟨h64, h16, h4⟩ d (rfl | rfl | rfl) <;> omega
    · intro h
      have h64 := h 64 (by decide)
      exact ⟨by omega, h 16 (by decide), h 4 (by decide)⟩
  rw [← hlisted]
  unfold recordClamped
  simp only [Bool.or_eq_false_iff, decide_eq_false_iff_not, not_not, Bool.not_eq_false']
  rfl

/-- Settles O13, field by field, and by the clamp's fixed points for the clamped flag. -/
theorem checkedConfigurationInRange : Obligations.CheckedConfigurationInRange := by
  refine ⟨rfl, fun record hpass => ?_⟩
  obtain ⟨hlen, -, -⟩ := (recordPasses_iff record).mp hpass
  have hcells := (rawCells_length record hlen).ge
  refine ⟨checkedConfiguration_checkedFrom record hlen, configInRange_clamp _ hcells, ?_⟩
  rintro raw rfl
  refine ⟨(recordClamped_false_iff record).trans (and_congr_left' (clampConfiguration_eq_iff _ hcells)), fun hclear => ?_⟩
  obtain ⟨hsame, -⟩ := (recordClamped_false_iff record).mp hclear
  have hgroups : (checkedConfiguration record).groupCount = (rawConfiguration record).groupCount :=
    (congrArg Configuration.groupCount hsame :)
  rwa [hgroups] at hsame

end Sys2Proof.Machine
end

section
/-! SUPPORT. The time base, the scan and what a sample set leaves alone. -/

namespace Sys2Proof.Machine

variable {s t u : State}

/-! ### Time that passes -/

theorem wordArrived_iff {ends now i : Nat} (h : 2040 ≤ ends) (hi : i < 30) :
    wordArrived ends now i = true ↔ ends - 2040 + (i + 1) * 68 ≤ now := by
  have hword : scanWordUs = 68 := rfl
  simp only [wordArrived, decide_eq_true_iff, hword]
  omega

theorem wordsStored_length {ends : Nat} (he : s.scn.scanEnds = some ends) (now : Nat) : (s.wordsStored now).length = 30 := by
  simp [State.wordsStored, he]

/-- A word that has arrived is stored in its place, the word of the SAMPLE_SET that waits or a free value; before that
its place is as it was. -/
theorem wordsStored_place {ends i : Nat} (he : s.scn.scanEnds = some ends) (hends : 2040 ≤ ends) (hi : i < 30) (now : Nat) :
    (ends - 2040 + (i + 1) * 68 ≤ now →
      (∀ words, incomingWords s.pending = some words → (s.wordsStored now)[i]? = some (words.getD i 0#17)) ∧
      (incomingWords s.pending = none → (s.wordsStored now)[i]? = some (Config.linkWord s.resets ends i))) ∧
    (now < ends - 2040 + (i + 1) * 68 → (s.wordsStored now)[i]? = some (s.scn.buffer.getD i 0#17)) := by
  rw [wordsStored_getElem? he now hi]
  refine ⟨fun harrived => ?_, fun hlater => ?_⟩
  · rw [if_pos ((wordArrived_iff hends hi).mpr harrived)]
    refine ⟨fun words hwords => ?_, fun hnone => ?_⟩
    · simp [State.linkWord, hwords, scanWordAt]
    · simp [State.linkWord, hnone]
  · rw [if_neg (fun h => absurd ((wordArrived_iff hends hi).mp h) (by omega))]

/-- What passing time changes: the time base, and in a scan the places of the words that arrive. -/
theorem atTime_spec (s : State) (now : Nat) :
    (s.scn.scanEnds = none → s.atTime now = { s with now := now }) ∧
    ∀ ends, s.scn.scanEnds = some ends → 2040 ≤ ends →
      s.atTime now = { s with now := now, scn.buffer := (s.atTime now).scn.buffer } ∧
      (s.atTime now).scn.buffer.length = 30 ∧
      ∀ i, i < 30 →
        (ends - 2040 + (i + 1) * 68 ≤ now →
          (∀ words, incomingWords s.pending = some words → (s.atTime now).scn.buffer[i]? = some (words.getD i 0#17)) ∧
          (incomingWords s.pending = none → (s.atTime now).scn.buffer[i]? = some (Config.linkWord s.resets ends i))) ∧
        (now < ends - 2040 + (i + 1) * 68 → (s.atTime now).scn.buffer[i]? = some (s.scn.buffer.getD i 0#17)) :=
  ⟨fun he => atTime_between he now, fun _ he hends =>
    ⟨rfl, wordsStored_length he now, fun _ hi => wordsStored_place he hends hi now⟩⟩

/-! ### Ageing -/

theorem mem_agePeers_iff (period : Nat) (ptb : List PeerRecord) (p : PeerRecord) :
    p ∈ agePeers period ptb ↔ ∃ q ∈ ptb, q.age + 1 ≤ 6 * period ∧ p = { q with age := q.age + 1 } := by
  simp only [agePeers, List.mem_map, List.mem_filter, decide_eq_true_iff, and_assoc, eq_comm (a := p)]

theorem agePeers_addresses (period : Nat) (ptb : List PeerRecord) :
    ((agePeers period ptb).map PeerRecord.address).Sublist (ptb.map PeerRecord.address) := by
  rw [agePeers, List.map_map]
  exact (List.filter_sublist).map PeerRecord.address

/-- Settles O14, from what passing time changes and the ageing of the table. -/
theorem timeBaseExpires : Obligations.TimeBaseExpires := by
  refine fun s => ⟨fun _ => rfl, fun _ => rfl, ?_, ⟨_, rfl, mem_agePeers_iff _ _, agePeers_addresses _ _, rfl⟩, rfl⟩
  rintro t (⟨after, rfl⟩ | ⟨d, rfl⟩)
  · exact atTime_spec s (s.now + after)
  · exact atTime_spec s (max s.now d)

/-! ### What a sample set leaves alone -/

/-- A sample set, after the measurements are taken in, touches the account, the claims, the round and the duty under way,
and no full-recognition timer. -/
structure StepFrame (s t : State) : Prop where
  form : t = { s with acc := t.acc, clm := t.clm, rnd := t.rnd, fld.pwmDuty := t.fld.pwmDuty }
  fullTimer : t.acc.fullTimer = s.acc.fullTimer

theorem StepFrame.trans (h : StepFrame s t) (k : StepFrame t u) : StepFrame s u :=
  ⟨k.form.trans (by rw [h.form]), k.fullTimer.trans h.fullTimer⟩

/-- The round's own step at a sample set leaves the current history and the low-current run alone too. -/
structure SampleFrame (s t : State) : Prop extends StepFrame s t where
  history : t.clm.history = s.clm.history
  lowRun : t.clm.lowRun = s.clm.lowRun

theorem SampleFrame.refl (s : State) : SampleFrame s s := ⟨⟨rfl, rfl⟩, rfl, rfl⟩

theorem SampleFrame.trans (h : SampleFrame s t) (k : SampleFrame t u) : SampleFrame s u :=
  ⟨h.toStepFrame.trans k.toStepFrame, k.history.trans h.history, k.lowRun.trans h.lowRun⟩

theorem SampleFrame.after (k : SampleFrame t u) (h : SampleFrame s t) : SampleFrame s u := h.trans k

theorem SampleFrame.ite {c : Prop} [Decidable c] (h : SampleFrame s t) (k : SampleFrame s u) :
    SampleFrame s (if c then t else u) := by
  split
  · exact h
  · exact k

theorem sampleFrame_requestStatus (s : State) : SampleFrame s (requestStatus s) := .ite ⟨⟨rfl, rfl⟩, rfl, rfl⟩ (.refl s)

theorem sampleFrame_withdraw (r : Resource) (s : State) : SampleFrame s (withdraw r s) := by
  unfold withdraw
  dsimp only
  cases r <;> cases (s.clm.machine _).state <;> exact ⟨⟨rfl, rfl⟩, rfl, rfl⟩

theorem sampleFrame_releaseClaim (r : Resource) (o : RoundOutcome) (s : State) : SampleFrame s (releaseClaim r o s) := by
  unfold releaseClaim
  dsimp only
  cases r <;> cases (s.clm.machine _).state <;> exact ⟨⟨rfl, rfl⟩, rfl, rfl⟩

theorem sampleFrame_enterInhibited (s : State) : SampleFrame s (enterInhibited s) :=
  .trans (t := { s with rnd.round := .inhibited }) ⟨⟨rfl, rfl⟩, rfl, rfl⟩ (sampleFrame_requestStatus _)

theorem equaliseEnd_fullTimer (a : Acc) (o : RoundOutcome) : (a.equaliseEnd o).fullTimer = a.fullTimer := by
  unfold Acc.equaliseEnd
  dsimp only
  split <;> rfl

theorem sampleFrame_equaliseEnd (s : State) : SampleFrame s (equaliseEnd s) := by
  unfold equaliseEnd
  dsimp only
  have hclosed : SampleFrame s
      { s with
        rnd.lastEq := (s.rnd.record.map (closeRecord s.now)).or s.rnd.lastEq
        rnd.record := none
        acc := s.acc.equaliseEnd s.roundOutcome } := ⟨⟨rfl, equaliseEnd_fullTimer _ _⟩, rfl, rfl⟩
  have hreleased := hclosed.trans (sampleFrame_releaseClaim .eq s.roundOutcome _)
  have hoff := hreleased.trans (u := { releaseClaim .eq s.roundOutcome _ with rnd.demand := false, rnd.applied := 0,
                                                                              rnd.pendingValid := false }) ⟨⟨rfl, rfl⟩, rfl, rfl⟩
  exact .ite (hoff.trans (sampleFrame_enterInhibited _)) (.ite (hoff.trans ⟨⟨rfl, rfl⟩, rfl, rfl⟩) (hoff.trans ⟨⟨rfl, rfl⟩, rfl, rfl⟩))

theorem sampleFrame_enterStuck (s : State) : SampleFrame s (enterStuck s) := by
  unfold enterStuck zeroShare
  exact .ite (.trans (t := { s with rnd.inhibit := true, rnd.round := .stuck, rnd.transferFrom := none,
                                    rnd.recoveryCheck := none, clm.eq.share := 0 }) ⟨⟨rfl, rfl⟩, rfl, rfl⟩
    (sampleFrame_requestStatus _)) ⟨⟨rfl, rfl⟩, rfl, rfl⟩

theorem sampleFrame_prepareEnds (o : RoundOutcome) (c : Option AbortCause) (s : State) : SampleFrame s (prepareEnds o c s) :=
  .trans (t := fixOutcome o c { s with rnd.chargerWait := none }) ⟨⟨rfl, rfl⟩, rfl, rfl⟩ (sampleFrame_equaliseEnd _)

theorem sampleFrame_goBack (o : RoundOutcome) (c : Option AbortCause) (s : State) : SampleFrame s (goBack o c s) := ⟨⟨rfl, rfl⟩, rfl, rfl⟩

theorem sampleFrame_commandFloatWithWindow (s : State) : SampleFrame s (commandFloatWithWindow s) :=
  .trans (t := { s with rnd.relay := .float, rnd.currentWait := none }) ⟨⟨rfl, rfl⟩, rfl, rfl⟩
    (.ite ⟨⟨rfl, rfl⟩, rfl, rfl⟩ (sampleFrame_enterStuck _))

theorem sampleFrame_equaliseSample (s : State) : SampleFrame s (equaliseSample s) := by
  unfold equaliseSample
  refine .ite (sampleFrame_goBack _ _ s) (.ite (sampleFrame_goBack _ _ s) ?_)
  have hband : SampleFrame s (stepBand s) := ⟨⟨rfl, rfl⟩, rfl, rfl⟩
  dsimp only
  cases endTest (stepBand s) with
  | some o => exact hband.trans (sampleFrame_goBack o none _)
  | none =>
    have hpending : SampleFrame (stepBand s) (applyPending (stepBand s)) := .ite ⟨⟨rfl, rfl⟩, rfl, rfl⟩ (.refl _)
    exact (hband.trans hpending).trans ⟨⟨rfl, rfl⟩, rfl, rfl⟩

theorem sampleFrame_roundSample (s : State) : SampleFrame s (roundSample s) := by
  unfold roundSample
  cases s.rnd.round with
  | float => exact .ite ⟨⟨rfl, rfl⟩, rfl, rfl⟩ (.ite ⟨⟨rfl, rfl⟩, rfl, rfl⟩ (.refl s))
  | due | waterDue => exact .ite (.ite ⟨⟨rfl, rfl⟩, rfl, rfl⟩ (.refl s)) ⟨⟨rfl, rfl⟩, rfl, rfl⟩
  | claiming => exact .ite (.refl s) ((sampleFrame_withdraw .eq s).trans ⟨⟨rfl, rfl⟩, rfl, rfl⟩)
  | waterClaiming => exact .ite (.refl s) ((sampleFrame_withdraw .water s).trans ⟨⟨rfl, rfl⟩, rfl, rfl⟩)
  | prepare => exact .ite (sampleFrame_prepareEnds _ _ s) (.ite (sampleFrame_prepareEnds _ _ s) (.refl s))
  | equalising | soak => exact sampleFrame_equaliseSample s
  | transferBack => exact .ite (sampleFrame_commandFloatWithWindow s) (.refl s)
  | transferOut | rest | watering | inhibited | stuck => exact .refl s

theorem stepFrame_reduceShare (c : Channel) (s : State) : StepFrame s (reduceShare c s) := by
  unfold reduceShare
  dsimp only
  split_ifs
  · rw [requestStatus_eq]
    exact ⟨rfl, rfl⟩
  · exact ⟨rfl, rfl⟩
  · exact ⟨rfl, rfl⟩

theorem stepFrame_delivered (words : List ScanWord) (s : State) :
    StepFrame (conditioned words s) (deliverSampleSet words s) :=
  (sampleFrame_roundSample _).toStepFrame.trans (stepFrame_reduceShare _ _)

/-- In the states in which nothing waits for a sample set, the measurements are all it changes. -/
theorem delivered_of_idle (words : List ScanWord) (hround : s.rnd.round = .transferOut ∨ s.rnd.round = .rest ∨
    s.rnd.round = .watering ∨ s.rnd.round = .inhibited ∨ s.rnd.round = .stuck) :
    deliverSampleSet words s = conditioned words s := by
  rw [deliverSampleSet_eq]
  have hsame : roundSample (conditioned words s) = conditioned words s := by
    unfold roundSample
    rw [conditioned_round]
    obtain h | h | h | h | h := hround <;> rw [h]
  rw [hsame]
  refine reduceShare_of_not_working _ ?_ ?_ <;> rw [conditioned_round] <;> obtain h | h | h | h | h := hround <;> simp [h]

/-- The full recognition of a sample set, read off the state after it (R27). -/
theorem recognised_delivered_iff (words : List ScanWord) (ends : Nat) : Recognised s (deliverSampleSet words (s.reach ends)) ↔
    s.acc.recognises s.cfg.config (s.scn.complete words).current s.rnd.round = true := by
  unfold Recognised
  rw [(stepFrame_delivered words (s.reach ends)).fullTimer, conditioned_acc]
  exact (recognises_iff_sampleSet _ _ _ _ _).symm

theorem scn_delivered (words : List ScanWord) (ends : Nat) :
    (deliverSampleSet words (s.reach ends)).scn = s.scn.complete words := deliverSampleSet_scn words

/-- The stale channel count is the count of STALE channels in use (R15). -/
theorem complete_staleCount (c : Scn) (words : List ScanWord) : (c.complete words).staleCount =
    ((c.complete words).blocs ++ [(c.complete words).current, (c.complete words).voltage, (c.complete words).pilot,
      (c.complete words).ambient]).countP (fun c => c.freshness = .stale) :=
  countStale_eq _ _ _ _ _

/-- A sample set as a whole touches the measurements and what its own step touches. -/
theorem StepFrame.of_measured {ends : Nat} (k : StepFrame u t) (h : Measured ends s u) :
    t =
      { s with
        now := max s.now ends
        scn := t.scn
        mon := t.mon
        acc := t.acc
        clm := t.clm
        rnd := t.rnd
        fld.pwmDuty := t.fld.pwmDuty } := by
  have hscn : t.scn = u.scn := by rw [k.form]
  have hmon : t.mon = u.mon := by rw [k.form]
  rw [hscn, hmon]
  refine k.form.trans ?_
  generalize t.acc = a, t.clm = c, t.rnd = r, t.fld.pwmDuty = d
  rw [h.form]

/-- Settles O15, from what the delivery leaves alone and the measurements' own equations. -/
theorem sampleSetIsDelivered : Obligations.SampleSetIsDelivered := by
  refine fun words s => ⟨fun h => by simp only [exec, execSampleSet, h], fun ends he => ⟨_, exec_sampleSet_eq he, ?_⟩⟩
  have hscn := scn_delivered (s := s) words ends
  have htemp : (deliverSampleSet words (s.reach ends)).rnd.temperature =
      stringTemperature (s.scn.complete words).pilot (s.scn.complete words).ambient := deliverSampleSet_temperature words
  have hrest : (deliverSampleSet words (s.reach ends)).rnd.restTimer =
      stepRestTimer s.cfg.config s.rnd.round
        (s.acc.recognises s.cfg.config (s.scn.complete words).current s.rnd.round) s.rnd.restTimer :=
    deliverSampleSet_restTimer words
  have hrecognised := recognised_delivered_iff (s := s) words ends
  have hmeasured := conditioned_spec (s := s) ends words
  refine ⟨?_, ?_, ?_, ?_, ?_, ?_, ?_, ?_, ?_, fun hround => ?_⟩
  · exact (stepFrame_delivered words (s.reach ends)).of_measured hmeasured
  · rw [hscn]; rfl
  · rw [hscn]; rfl
  · rw [hscn]; exact complete_staleCount _ _
  · intro hpilot
    rw [hscn] at hpilot ⊢
    rw [htemp, stringTemperature, if_pos ((usable_iff _).mpr hpilot)]
  · intro hpilot hambient
    rw [hscn] at hpilot hambient ⊢
    rw [htemp, stringTemperature, if_neg (by simp [usable_iff, hpilot]), if_pos ((usable_iff _).mpr hambient)]
  · intro hpilot hambient
    rw [hscn] at hpilot hambient
    rw [htemp, stringTemperature, if_neg (by simp [usable_iff, hpilot]), if_neg (by simp [usable_iff, hambient])]
  · intro h
    rw [hrest, stepRestTimer]
    split_ifs with hr hoff
    · rfl
    · rfl
    · exact absurd h (not_or.mpr ⟨fun h => hr (hrecognised.mp h), hoff⟩)
  · intro hno hon
    rw [hrest, stepRestTimer, if_neg (fun h => hno (hrecognised.mpr h)), if_neg (by simp [hon])]
    rfl
  · rw [delivered_of_idle (s := s.reach ends) words hround]
    obtain ⟨hforceEq, hforceWater⟩ := hmeasured.force
    rw [hmeasured.form]
    exact ⟨rfl, rfl, rfl, hforceEq, hforceWater⟩

/-! ### The scan and its channels -/

theorem complete_blocs_length (c : Scn) (words : List ScanWord) : (c.complete words).blocs.length = c.blocs.length := by
  simp [Scn.complete, stepBlocs]

theorem nextExpected_of_good {header : ScanWord} (hodd : OddOnes header) (hmark : header.extractLsb' 5 12 = 0xA5C#12)
    (e : Option (BitVec 4)) : nextExpected e header = some (header.extractLsb' 1 4 + 1#4) := by
  unfold nextExpected classifyHeader
  rw [if_pos ((goodHeader_iff header).mpr ⟨hodd, hmark⟩), headerSequence_eq]
  cases e with
  | none => rfl
  | some n => by_cases h : header.extractLsb' 1 4 = n <;> simp [h]

theorem nextExpected_of_miss {header : ScanWord} (hmiss : ¬ OddOnes header ∨ header.extractLsb' 5 12 ≠ 0xA5C#12)
    (e : Option (BitVec 4)) : nextExpected e header = e.map (fun n => n + 1#4) := by
  have hbad : ¬ (goodParity header && headerMarker header == 0xA5C#12) = true :=
    fun h => (not_and_or.mpr hmiss) ((goodHeader_iff header).mp h)
  unfold nextExpected classifyHeader
  rw [if_neg hbad]

/-- In a scan that is not examined no word gives a channel anything. -/
theorem channelReading_unexamined {words : List ScanWord} (h : ¬ Examined s words) (signed : Bool) (lo hi : Int) (i : Nat) :
    channelReading (scanExamined s.scn.expected words) signed lo hi words i = none :=
  if_neg (mt (scanExamined_iff words).mp h)

theorem channel_stepsInvalid {words : List ScanWord} (h : ¬ Examined s words) (c : Channel) (signed : Bool) (lo hi : Int)
    (i : Nat) : c.StepsInvalid (c.step (channelReading (scanExamined s.scn.expected words) signed lo hi words i)) := by
  rw [channelReading_unexamined h]
  exact stepInvalid_spec c

/-- Settles O16, by the class of the header and the channels' one step for a scan that is not examined. -/
theorem headerIsChecked : Obligations.HeaderIsChecked := by
  intro words s ends he
  refine ⟨_, exec_sampleSet_eq he, ?_⟩
  rw [scn_delivered]
  refine ⟨complete_blocs_length _ _, fun hodd hmark => nextExpected_of_good hodd hmark _, fun hmiss => nextExpected_of_miss hmiss _,
    fun hnot => ⟨fun i c c' hc hc' => ?_, channel_stepsInvalid hnot _ _ _ _ _, channel_stepsInvalid hnot _ _ _ _ _,
      channel_stepsInvalid hnot _ _ _ _ _, channel_stepsInvalid hnot _ _ _ _ _⟩⟩
  rw [stepBlocs_get hc hc']
  exact channel_stepsInvalid hnot _ _ _ _ _

/-- In an examined scan a channel steps by what its own word says. -/
theorem channel_stepsWord {words : List ScanWord} (h : Examined s words) (c : Channel) (signed : Bool) {lo hi : Int} (i : Nat)
    (hlh : lo ≤ hi) :
    Channel.StepsWord (words.getD i 0#17) lo hi
      (if signed then ((words.getD i 0#17).extractLsb' 1 16).toInt else (((words.getD i 0#17).extractLsb' 1 16).toNat : Int)) c
      (c.step (channelReading (scanExamined s.scn.expected words) signed lo hi words i)) := by
  rw [(scanExamined_iff words).mpr h]
  exact channelReading_spec c signed lo hi words i hlh

/-- Settles O17, channel by channel. -/
theorem channelWordsAreAccepted : Obligations.ChannelWordsAreAccepted := by
  intro words s ends he hex
  refine ⟨_, exec_sampleSet_eq he, ?_⟩
  rw [scn_delivered]
  refine ⟨complete_blocs_length _ _, fun i c c' hc hc' => ?_, channel_stepsWord hex _ true 25 (by decide),
    channel_stepsWord hex _ false 26 (by decide), channel_stepsWord hex _ true 27 (by decide),
    channel_stepsWord hex _ true 28 (by decide)⟩
  rw [stepBlocs_get hc hc']
  exact channel_stepsWord hex c false (i + 1) (by decide)

/-! ### Full recognition -/

theorem fullBand_iff (cfg : Configuration) (c : Channel) (r : RoundState) : fullBand cfg c r = true ↔
    c.freshness ≠ .stale ∧ 0 ≤ c.value ∧ c.value ≤ (cfg.capacity * 10 / 200 : Nat) ∧ offFloat r = false := by
  simp only [fullBand, Bool.and_eq_true, usable_iff, decide_eq_true_iff, Bool.not_eq_true', and_assoc]

theorem stepFull_fullTimer (a : Acc) (cfg : Configuration) (c : Channel) (r : RoundState) :
    (a.stepFull cfg c r).fullTimer = if fullBand cfg c r then min 7200 (a.fullTimer + 1) else 0 := by
  unfold Acc.stepFull
  split_ifs with hr hband hband
  · have htimer : a.fullTimer = 7199 := ((recognises_iff a cfg c r).mp hr).1
    rw [htimer]
    rfl
  · have hin : fullBand cfg c r = true := (Bool.and_eq_true _ _ ▸ hr : _ ∧ _).1
    exact absurd hin hband
  · rfl
  · rfl

theorem acc_sampleSet_fullTimer (a : Acc) (cfg : Configuration) (c : Channel) (r : RoundState) (m : Mon) :
    (a.sampleSet cfg c r m).fullTimer = if fullBand cfg c r then min 7200 (a.fullTimer + 1) else 0 := by
  calc (a.sampleSet cfg c r m).fullTimer
      = (((a.integrate cfg c).stepFull cfg c r).stepDetector cfg c).fullTimer := rfl
    _ = ((a.integrate cfg c).stepFull cfg c r).fullTimer := by rw [stepDetector_form]
    _ = _ := by rw [stepFull_fullTimer, integrate_fullTimer]

theorem stepFull_uncertain (a : Acc) (cfg : Configuration) (c : Channel) (r : RoundState) :
    (a.stepFull cfg c r).uncertain = if a.recognises cfg c r then false else a.uncertain := by
  unfold Acc.stepFull
  split_ifs <;> rfl

theorem integrate_uncertain (a : Acc) (cfg : Configuration) (c : Channel) :
    (a.integrate cfg c).uncertain = if c.usable then a.uncertain || c.clamped else true := by
  unfold Acc.integrate
  split_ifs <;> rfl

theorem acc_sampleSet_uncertain (a : Acc) (cfg : Configuration) (c : Channel) (r : RoundState) (m : Mon) :
    (a.sampleSet cfg c r m).uncertain =
      if a.recognises cfg c r then false else if c.usable then a.uncertain || c.clamped else true := by
  calc (a.sampleSet cfg c r m).uncertain
      = (((a.integrate cfg c).stepFull cfg c r).stepDetector cfg c).uncertain := rfl
    _ = ((a.integrate cfg c).stepFull cfg c r).uncertain := by rw [stepDetector_form]
    _ = _ := by rw [stepFull_uncertain, integrate_recognises, integrate_uncertain]

/-- A STALE or a zero current books nothing (R19). -/
theorem integrate_nothing {c : Channel} (h : c.freshness = .stale ∨ c.value = 0) (a : Acc) (cfg : Configuration) :
    (a.integrate cfg c).charge = a.charge ∧ (a.integrate cfg c).gassing = a.gassing ∧
      (a.integrate cfg c).discharged = a.discharged := by
  unfold Acc.integrate
  by_cases hu : c.usable = true
  · have hzero : c.value = 0 := h.resolve_left ((usable_iff c).mp hu)
    simp [hu, hzero]
  · simp [hu]

theorem AccountKept.uncertain {a b : Acc} (h : AccountKept a b) : b.uncertain = a.uncertain := by rw [h.form]

/-- Settles O23, by stages 1 and 2 of the account. -/
theorem fullRecognition : Obligations.FullRecognition := by
  intro words s ends he hc
  obtain ⟨t, ht, hk⟩ := exec_sampleSet_account (words := words) he hc
  have htimer := hk.fullTimer.trans (acc_sampleSet_fullTimer ..)
  have huncertain := hk.uncertain.trans (acc_sampleSet_uncertain ..)
  have hrecognised := recognised_iff hk
  have hband := fullBand_iff s.cfg.config t.scn.current s.rnd.round
  refine ⟨t, ht, fun hin => ?_, fun hout => ?_, fun hr => ⟨charge_of_recognised hk hr, ?_⟩, fun hr hstale => ?_,
    fun hr hfresh => ?_, fun hnone => ?_⟩
  · rw [htimer, if_pos (hband.mpr hin)]
  · rw [htimer, if_neg (fun h => ?_)]
    obtain ⟨hfresh, hlow, hhigh, hon⟩ := hband.mp h
    obtain h | h | h | h := hout
    · exact hfresh h
    · omega
    · omega
    · simp [h] at hon
  · rw [huncertain, if_pos (hrecognised.mp hr)]
  · rw [huncertain, if_neg (mt hrecognised.mpr hr), if_neg (by simp [usable_iff, hstale])]
  · rw [huncertain, if_neg (mt hrecognised.mpr hr), if_pos ((usable_iff _).mpr hfresh)]
  · obtain ⟨hcharge, hgassing, hdischarged⟩ := integrate_nothing hnone s.acc s.cfg.config
    exact ⟨fun hr => (charge_of_not_recognised hk hr).trans hcharge,
      (hk.gassing.trans (acc_sampleSet_gassing ..)).trans hgassing,
      (hk.discharged.trans (acc_sampleSet_discharged ..)).trans hdischarged⟩

end Sys2Proof.Machine
end

section
/-! SUPPORT. The round's own step at a sample set, state by state. -/

namespace Sys2Proof.Machine

variable {s t u : State}

/-! ### The state that a sample set measures -/

/-- A SAMPLE_SET measures first, in the round state it is delivered in; then RND and CLM act on the measured state. -/
theorem exec_sampleSet_measured {words : List ScanWord} {ends : Nat} (he : s.scn.scanEnds = some ends) :
    ∃ u, Measured ends s u ∧ exec (.sampleSet words) s = .next (reduceShare u.scn.current (roundSample u)) :=
  ⟨_, conditioned_spec ends words, exec_sampleSet_eq he⟩

section Measured

variable {ends : Nat} (h : Measured ends s u)
include h

theorem Measured.cfg : u.cfg = s.cfg := (congrArg State.cfg h.form :)

theorem Measured.ptb : u.ptb = s.ptb := (congrArg State.ptb h.form :)

theorem Measured.fld : u.fld = s.fld := (congrArg State.fld h.form :)

theorem Measured.clm : u.clm = { s.clm with statusQueued := u.clm.statusQueued } := (congrArg State.clm h.form :)

theorem Measured.rnd : u.rnd = { s.rnd with temperature := u.rnd.temperature, restTimer := u.rnd.restTimer } :=
  (congrArg State.rnd h.form :)

theorem Measured.round : u.rnd.round = s.rnd.round := (congrArg Rnd.round h.rnd :)

theorem Measured.record : u.rnd.record = s.rnd.record := (congrArg Rnd.record h.rnd :)

theorem Measured.machine (r : Resource) : u.clm.machine r = s.clm.machine r := by
  rw [h.clm]
  cases r <;> rfl

end Measured

/-- The share reduction waits for EQUALISING or SOAK. -/
theorem sampled_eq {v : State} (hv : roundSample u = v) (hround : v.rnd.round ≠ .equalising ∧ v.rnd.round ≠ .soak) :
    reduceShare u.scn.current (roundSample u) = v := by
  rw [hv]
  exact reduceShare_of_not_working _ hround.1 hround.2

/-! ### FLOAT, DUE and WATER_DUE -/

theorem needsEqualise_iff (n : Nat) (s : State) : needsEqualise n s = true ↔ n ≤ s.acc.presentedScore := decide_eq_true_iff

/-- Settles O26, by the chain of tests in FLOAT. -/
theorem floatDecides : Obligations.FloatDecides := by
  intro words s ends he hround
  obtain ⟨u, hm, hexec⟩ := exec_sampleSet_measured (words := words) he
  have hu : u.rnd.round = .float := hm.round.trans hround
  have hsample : roundSample u =
      if needsEqualise 500 u && fitToEqualise u then { u with rnd.round := .due }
      else if needsWater u && fitToWater u then { u with rnd.round := .waterDue } else u := by
    unfold roundSample
    rw [hu]
    rfl
  have heq : (needsEqualise 500 u && fitToEqualise u) = true ↔ 500 ≤ u.acc.presentedScore ∧ FitToEqualise u := by
    rw [Bool.and_eq_true, needsEqualise_iff, fitToEqualise_iff]
  have hwater : (needsWater u && fitToWater u) = true ↔ NeedsWater u ∧ FitToWater u := by
    rw [Bool.and_eq_true, needsWater_iff, fitToWater_iff]
  refine ⟨u, _, hexec, hm, fun hneed hfit => ?_, fun hno hneed hfit => ?_, fun hno hnowater => ?_⟩
  · exact sampled_eq (hsample.trans (if_pos (heq.mpr ⟨hneed, hfit⟩))) (by simp)
  · have hnot : ¬ (500 ≤ u.acc.presentedScore ∧ FitToEqualise u) := not_and_or.mpr (hno.imp_left (by omega))
    exact sampled_eq (hsample.trans ((if_neg (mt heq.mp hnot)).trans (if_pos (hwater.mpr ⟨hneed, hfit⟩)))) (by simp)
  · have hnot : ¬ (500 ≤ u.acc.presentedScore ∧ FitToEqualise u) := not_and_or.mpr (hno.imp_left (by omega))
    exact sampled_eq
      (hsample.trans ((if_neg (mt heq.mp hnot)).trans (if_neg (mt hwater.mp (not_and_or.mpr hnowater))))) (by simp [hu])

/-- The five conditions of an EQ claim in the terms of the peer table, for a string in DUE that is fit (R120, R121). -/
theorem eqClaimAllowed_iff (hround : s.rnd.round = .due) (hdischarging : s.acc.discharging = false) :
    eqClaimAllowed s = true ↔
      s.clm.eq.state = .none ∧ s.clm.eqBackOff = none ∧ s.cfg.hold = false ∧
        s.cfg.config.rMin ≤ availableUnclaimed s.cfg.config.period s.ptb ∧
        committedShare s.ptb + minimumShare s.cfg.config ≤ s.cfg.config.eBus := by
  have hown : s.aUnclaimed = availableUnclaimed s.cfg.config.period s.ptb + 1 := by
    unfold State.aUnclaimed
    rw [if_pos ⟨.inr (.inl hround), hdischarging⟩]
  simp only [eqClaimAllowed, hown, Bool.and_eq_true, decide_eq_true_iff, Option.isNone_iff_eq_none, Bool.not_eq_true', and_assoc,
    Nat.add_le_add_iff_right]
  rfl

theorem makeClaim_eq_eq (snapshot share : Nat) (s : State) : makeClaim .eq snapshot share s =
    { s with
      clm.eq := { state := .queued, tag := s.clm.nextTag, snapshot := snapshot, share := share, reason := .done,
                  windowTimer := none, yielding := false }
      clm.nextTag := if s.clm.nextTag = 255 then 1 else s.clm.nextTag + 1 } := rfl

theorem makeClaim_water_eq (snapshot share : Nat) (s : State) : makeClaim .water snapshot share s =
    { s with
      clm.water := { state := .queued, tag := s.clm.nextTag, snapshot := snapshot, share := share, reason := .done,
                     windowTimer := none, yielding := false }
      clm.nextTag := if s.clm.nextTag = 255 then 1 else s.clm.nextTag + 1 } := rfl

/-- Settles O27, by the chain of tests in DUE. -/
theorem dueClaims : Obligations.DueClaims := by
  intro words s ends he hround
  obtain ⟨u, hm, hexec⟩ := exec_sampleSet_measured (words := words) he
  have hu : u.rnd.round = .due := hm.round.trans hround
  have hsample : roundSample u = dueSample u := by
    unfold roundSample
    rw [hu]
  have hneeds : (needsEqualise 450 u && fitToEqualise u) = true ↔ 450 ≤ u.acc.presentedScore ∧ FitToEqualise u := by
    rw [Bool.and_eq_true, needsEqualise_iff, fitToEqualise_iff]
  unfold dueSample at hsample
  refine ⟨u, _, hexec, hm, fun hno => ?_, ?_⟩
  · have hnot : ¬ (450 ≤ u.acc.presentedScore ∧ FitToEqualise u) := not_and_or.mpr (hno.imp_left (by omega))
    exact sampled_eq (hsample.trans (if_neg (mt hneeds.mp hnot))) (by simp)
  · intro hneed hfit unclaimed committed request allowed hunclaimed hcommitted hrequest hallowed
    have hclaim := eqClaimAllowed_iff hu hfit.discharging
    have hcount : availableUnclaimed s.cfg.config.period s.ptb = unclaimed :=
      (availableUnclaimed_eq _ _).trans hunclaimed.symm
    have hshares : committedShare s.ptb = committed := (committedShare_eq _).trans hcommitted.symm
    have hminimum : minimumShare s.cfg.config = request / 2 := congrArg (· / 2) hrequest.symm
    rw [hm.clm, hm.cfg, hm.ptb, hcount, hshares, hminimum] at hclaim
    have hiff : eqClaimAllowed u = true ↔ allowed := hclaim.trans hallowed.symm
    rw [if_pos (hneeds.mpr ⟨hneed, hfit⟩)] at hsample
    refine ⟨fun hno => sampled_eq (hsample.trans (if_neg (mt hiff.mp hno))) (by simp [hu]), fun hyes => ?_⟩
    have hmade := hsample.trans (if_pos (hiff.mpr hyes))
    have hshare : claimShare u = min request (s.cfg.config.eBus - committed) := by
      unfold claimShare State.committedOthers
      rw [hm.cfg, hm.ptb, hshares, hrequest]
      rfl
    have htag : u.clm.nextTag = s.clm.nextTag := (congrArg Clm.nextTag hm.clm :)
    rw [sampled_eq hmade (by simp), makeClaim_eq_eq, hshare, htag]

/-- The four conditions of a WATER claim in the terms of the peer table (R110, R122). -/
theorem waterClaimAllowed_iff (s : State) : waterClaimAllowed s = true ↔
    s.clm.water.state = .none ∧ s.clm.waterBackOff = none ∧ s.cfg.hold = false ∧ ∀ p ∈ s.ptb, p.waterClaim = none := by
  have hfree : waterOccupied s.ptb = false ↔ ∀ p ∈ s.ptb, p.waterClaim = none := by
    simp [waterOccupied]
  simp only [waterClaimAllowed, Bool.and_eq_true, decide_eq_true_iff, Option.isNone_iff_eq_none, Bool.not_eq_true', hfree,
    and_assoc]

/-- Settles O28, by the chain of tests in WATER_DUE. -/
theorem waterDueClaims : Obligations.WaterDueClaims := by
  intro words s ends he hround
  obtain ⟨u, hm, hexec⟩ := exec_sampleSet_measured (words := words) he
  have hu : u.rnd.round = .waterDue := hm.round.trans hround
  have hsample : roundSample u = waterDueSample u := by
    unfold roundSample
    rw [hu]
  have hneeds : (needsWater u && fitToWater u) = true ↔ NeedsWater u ∧ FitToWater u := by
    rw [Bool.and_eq_true, needsWater_iff, fitToWater_iff]
  unfold waterDueSample at hsample
  refine ⟨u, _, hexec, hm, fun hno => ?_, fun hneed hfit allowed hallowed => ?_⟩
  · exact sampled_eq (hsample.trans (if_neg (mt hneeds.mp (not_and_or.mpr hno)))) (by simp)
  · have hclaim := waterClaimAllowed_iff u
    rw [hm.clm, hm.cfg, hm.ptb] at hclaim
    have hiff : waterClaimAllowed u = true ↔ allowed := hclaim.trans hallowed.symm
    rw [if_pos (hneeds.mpr ⟨hneed, hfit⟩)] at hsample
    refine ⟨fun hno => sampled_eq (hsample.trans (if_neg (mt hiff.mp hno))) (by simp [hu]), fun hyes => ?_⟩
    have hmade := hsample.trans (if_pos (hiff.mpr hyes))
    have htag : u.clm.nextTag = s.clm.nextTag := (congrArg Clm.nextTag hm.clm :)
    rw [sampled_eq hmade (by simp), makeClaim_water_eq, htag]

/-! ### CLAIMING and WATER_CLAIMING -/

/-- The fitness that a claim of a resource rests on (R70). -/
def FitFor (r : Resource) (s : State) : Prop := match r with | .eq => FitToEqualise s | .water => FitToWater s

theorem claimingState_sample (r : Resource) (hround : u.rnd.round = claimingState r) :
    (FitFor r u → roundSample u = u) ∧ (¬ FitFor r u → roundSample u = { withdraw r u with rnd.round := .float }) := by
  unfold roundSample
  rw [hround]
  cases r with
  | eq => exact ⟨fun h => if_pos ((fitToEqualise_iff u).mpr h), fun h => if_neg (mt (fitToEqualise_iff u).mp h)⟩
  | water => exact ⟨fun h => if_pos ((fitToWater_iff u).mpr h), fun h => if_neg (mt (fitToWater_iff u).mp h)⟩

/-- Settles O29, by the withdrawal's two branches. -/
theorem claimingLosesFitness : Obligations.ClaimingLosesFitness := by
  intro words s ends r he hround
  obtain ⟨u, hm, hexec⟩ := exec_sampleSet_measured (words := words) he
  obtain ⟨hkept, hlost⟩ := claimingState_sample r (hm.round.trans hround)
  refine ⟨u, _, hexec, hm, fun fit hfit => ⟨fun h => ?_, fun h hstate => ?_, fun h hstate => ?_⟩⟩
  · refine sampled_eq (hkept (hfit.mp h)) ?_
    rw [hm.round, hround]
    cases r <;> simp
  · rw [← hm.machine r] at hstate
    rw [sampled_eq (hlost (mt hfit.mpr h)) (by simp), withdraw_queued hstate]
  · rw [← hm.machine r] at hstate
    rw [sampled_eq (hlost (mt hfit.mpr h)) (by simp), withdraw_contending hstate]

/-! ### EQUALISING and SOAK -/

theorem temperatureAborts_iff (t : Option Int) :
    temperatureAborts t = true ↔ t = none ∨ ∃ v, t = some v ∧ 450 < v := by
  cases t <;> simp [temperatureAborts]

theorem endTest_complete (hband : s.cfg.config.holdMinutes * 60 ≤ s.rnd.bandTimer)
    (helapsed : s.cfg.config.minHours * 3600 ≤ s.rnd.elapsed) : endTest s = some .complete := if_pos ⟨hband, helapsed⟩

theorem endTest_timedOut (hopen : s.rnd.bandTimer < s.cfg.config.holdMinutes * 60 ∨
      s.rnd.elapsed < s.cfg.config.minHours * 3600)
    (hmax : s.cfg.config.maxHours * 3600 ≤ s.rnd.elapsed) : endTest s = some .timedOut :=
  (if_neg (by omega)).trans (if_pos hmax)

theorem endTest_none (hopen : s.rnd.bandTimer < s.cfg.config.holdMinutes * 60 ∨
      s.rnd.elapsed < s.cfg.config.minHours * 3600)
    (hmax : s.rnd.elapsed < s.cfg.config.maxHours * 3600) : endTest s = none :=
  (if_neg (by omega)).trans (if_neg (by omega))

/-- A sample set that passes the abort tests steps the timers and the band, then ends the round or regulates (R152). -/
theorem equaliseSample_of_fit (hcurrent : s.scn.current.freshness ≠ .stale) {v : Int} (htemp : s.rnd.temperature = some v)
    (hv : v ≤ 450) : equaliseSample s =
      match endTest (stepBand s) with
      | some o => goBack o none (stepBand s)
      | none => regulate (applyPending (stepBand s)) :=
  (if_neg (by simp [(usable_iff _).mpr hcurrent])).trans (if_neg (by simp [temperatureAborts, htemp, hv]))

/-- A round that still works after the sample set was regulated in it. -/
theorem equaliseSample_of_working (h : (equaliseSample s).rnd.round = .equalising ∨ (equaliseSample s).rnd.round = .soak) :
    equaliseSample s = regulate (applyPending (stepBand s)) := by
  have hback (o : RoundOutcome) (c : Option AbortCause) (v : State) :
      ¬ ((goBack o c v).rnd.round = .equalising ∨ (goBack o c v).rnd.round = .soak) := fun h => h.elim (nomatch ·) (nomatch ·)
  unfold equaliseSample at h ⊢
  dsimp only at h ⊢
  split_ifs at h ⊢ with hstale hhot
  · exact absurd h (hback _ _ _)
  · exact absurd h (hback _ _ _)
  · cases hend : endTest (stepBand s) with
    | some o => rw [hend] at h; exact absurd h (hback _ _ _)
    | none => rfl

/-- What the share and regulator step of a working round may change (R136, R151, R154). -/
theorem regulated_form (c : Channel) (v t : State) (ht : reduceShare c (regulate (applyPending v)) = t) : t =
    { v with
      clm :=
        { v.clm with
          eq.share := t.clm.eq.share
          history := t.clm.history
          lowRun := t.clm.lowRun
          statusQueued := t.clm.statusQueued }
      rnd :=
        { v.rnd with
          duty := t.rnd.duty
          applied := t.rnd.applied
          pending := t.rnd.pending
          pendingValid := t.rnd.pendingValid }
      fld.pwmDuty := t.fld.pwmDuty } := by
  subst ht
  unfold reduceShare applyPending
  simp only [requestStatus_eq]
  split_ifs <;> rfl

theorem working_sample (hround : s.rnd.round = .equalising ∨ s.rnd.round = .soak) : roundSample s = equaliseSample s := by
  unfold roundSample
  obtain h | h := hround <;> rw [h]

/-- Settles O30, by the abort tests, the end test and the forms of the two last steps. -/
theorem equalisingSampleEnds : Obligations.EqualisingSampleEnds := by
  intro words s ends r he hround hr ho
  obtain ⟨u, hm, hexec⟩ := exec_sampleSet_measured (words := words) he
  have hsample : roundSample u = equaliseSample u := working_sample (by rwa [hm.round])
  have hru : u.rnd.record = some r := hm.record.trans hr
  refine ⟨u, _, hexec, hm, fun hstale => ?_, fun hcurrent htemp => ?_, fun hcurrent v htemp hv => ?_⟩
  · have hback : equaliseSample u = u.sentBack r .aborted (some .currentStale) :=
      (if_pos (by simp [(not_usable _).mpr hstale])).trans (goBack_eq hru ho _ _)
    exact sampled_eq (hsample.trans hback) ⟨fun h => (nomatch h), fun h => (nomatch h)⟩
  · have hback : equaliseSample u = u.sentBack r .aborted (some .temperature) :=
      (if_neg (by simp [(usable_iff _).mpr hcurrent])).trans
        ((if_pos ((temperatureAborts_iff _).mpr htemp)).trans (goBack_eq hru ho _ _))
    exact sampled_eq (hsample.trans hback) ⟨fun h => (nomatch h), fun h => (nomatch h)⟩
  · intro elapsed band w helapsed hband hw
    have hfit := hsample.trans (equaliseSample_of_fit hcurrent htemp hv)
    have hstep : stepBand u = w := by
      have hel : u.rnd.elapsed = s.rnd.elapsed := (congrArg Rnd.elapsed hm.rnd :)
      have hbt : u.rnd.bandTimer = s.rnd.bandTimer := (congrArg Rnd.bandTimer hm.rnd :)
      rw [hw, helapsed, hband, ← hel, ← hbt]
      rfl
    rw [hstep] at hfit
    have hrw : w.rnd.record = some r := by rw [hw]; exact hru
    have hcfg : w.cfg = s.cfg := by rw [hw]; exact hm.cfg
    have hwband : w.rnd.bandTimer = band := by rw [hw]
    have hwelapsed : w.rnd.elapsed = elapsed := by rw [hw]
    rw [← hwband, ← hwelapsed, ← hcfg]
    refine ⟨fun hb hel => ?_, fun hopen hmax => ?_, fun hopen hmax => ?_⟩
    · rw [endTest_complete hb hel] at hfit
      exact sampled_eq (hfit.trans (goBack_eq hrw ho _ _)) ⟨fun h => (nomatch h), fun h => (nomatch h)⟩
    · rw [endTest_timedOut hopen hmax] at hfit
      exact sampled_eq (hfit.trans (goBack_eq hrw ho _ _)) ⟨fun h => (nomatch h), fun h => (nomatch h)⟩
    · rw [endTest_none hopen hmax] at hfit
      exact regulated_form u.scn.current w _ (congrArg (reduceShare u.scn.current) hfit.symm)

/-! ### The regulator -/

theorem equaliseEnd_not_working (s : State) :
    ¬ ((equaliseEnd s).rnd.round = .equalising ∨ (equaliseEnd s).rnd.round = .soak) := by
  unfold equaliseEnd enterInhibited enterRest
  dsimp only
  split_ifs <;> simp

theorem prepareSample_not_working (hround : s.rnd.round = .prepare) :
    ¬ ((prepareSample s).rnd.round = .equalising ∨ (prepareSample s).rnd.round = .soak) := by
  unfold prepareSample prepareEnds
  split_ifs
  · exact equaliseEnd_not_working _
  · exact equaliseEnd_not_working _
  · simp [hround]

theorem backSample_not_working (hround : s.rnd.round = .transferBack) :
    ¬ ((backSample s).rnd.round = .equalising ∨ (backSample s).rnd.round = .soak) := by
  unfold backSample commandFloatWithWindow
  dsimp only
  split_ifs
  · simp [hround]
  · simp [enterStuck_eq, State.stuckEntered]
  · simp [hround]

/-- No other round state leads into EQUALISING or SOAK at a sample set. -/
theorem roundSample_not_working (hround : ¬ (s.rnd.round = .equalising ∨ s.rnd.round = .soak)) :
    ¬ ((roundSample s).rnd.round = .equalising ∨ (roundSample s).rnd.round = .soak) := by
  unfold roundSample
  cases hr : s.rnd.round with
  | equalising => exact absurd (.inl hr) hround
  | soak => exact absurd (.inr hr) hround
  | prepare => exact prepareSample_not_working hr
  | transferBack => exact backSample_not_working hr
  | float => unfold floatSample; split_ifs <;> simp [hr]
  | due => unfold dueSample; split_ifs <;> simp [hr]
  | waterDue => unfold waterDueSample; split_ifs <;> simp [hr]
  | claiming => unfold claimingSample; split_ifs <;> simp [hr]
  | waterClaiming => unfold waterClaimingSample; split_ifs <;> simp [hr]
  | transferOut | rest | watering | inhibited | stuck => simp [hr]

/-- A round that still works after a sample set worked before it, and was regulated in it. -/
theorem roundSample_of_working (h : (roundSample s).rnd.round = .equalising ∨ (roundSample s).rnd.round = .soak) :
    (s.rnd.round = .equalising ∨ s.rnd.round = .soak) ∧ roundSample s = regulate (applyPending (stepBand s)) := by
  by_cases hround : s.rnd.round = .equalising ∨ s.rnd.round = .soak
  · rw [working_sample hround] at h ⊢
    exact ⟨hround, equaliseSample_of_working h⟩
  · exact absurd h (roundSample_not_working hround)

theorem regulatorStep_nonneg {applied : Nat} {i : Int} (h : 0 ≤ (applied : Int) - i) :
    regulatorStep applied i = min 32 (((applied : Int) - i) / 4) := by
  unfold regulatorStep
  rw [Int.tdiv_eq_ediv_of_nonneg h]
  omega

theorem regulatorStep_neg {applied : Nat} {i : Int} (h : (applied : Int) - i < 0) :
    regulatorStep applied i = -(min 32 (-((applied : Int) - i) / 4)) := by
  unfold regulatorStep
  rw [← Int.neg_neg ((applied : Int) - i), Int.neg_tdiv, Int.tdiv_eq_ediv_of_nonneg (by omega)]
  omega

theorem nextDuty_spec {applied : Nat} {i : Int} {duty : Nat} :
    ((duty : Int) + regulatorStep applied i < 0 → nextDuty false applied i duty = 0) ∧
      (1023 < (duty : Int) + regulatorStep applied i → nextDuty false applied i duty = 1023) ∧
      (0 ≤ (duty : Int) + regulatorStep applied i → (duty : Int) + regulatorStep applied i ≤ 1023 →
        (nextDuty false applied i duty : Int) = duty + regulatorStep applied i) := by
  unfold nextDuty
  rw [if_neg (by decide)]
  omega

/-- What a sample set gives a round that still works after it. -/
structure Regulated (u t : State) : Prop where
  applied : t.rnd.applied = if u.rnd.pendingValid then u.rnd.pending else u.rnd.applied
  duty : t.rnd.duty = nextDuty u.mon.foldBack t.rnd.applied u.scn.current.value u.rnd.duty
  pwmDuty : t.fld.pwmDuty = if t.rnd.duty = 0 then 0 else u.fld.pwmDuty

theorem regulated_spec (u : State) : Regulated u (regulate (applyPending (stepBand u))) := by
  unfold regulate applyPending
  cases hp : u.rnd.pendingValid with
  | true => rw [if_pos (show (stepBand u).rnd.pendingValid = true from hp)]; exact ⟨by simp [hp]; rfl, rfl, rfl⟩
  | false => rw [if_neg (by simp [stepBand, hp])]; exact ⟨by simp [hp]; rfl, rfl, rfl⟩

/-- The measurements after a sample set are the measured state's. -/
theorem sampled_measurements (u : State) :
    (reduceShare u.scn.current (roundSample u)).mon = u.mon ∧ (reduceShare u.scn.current (roundSample u)).scn = u.scn := by
  have hframe := ((sampleFrame_roundSample u).toStepFrame.trans (stepFrame_reduceShare u.scn.current _)).form
  exact ⟨by rw [hframe], by rw [hframe]⟩

theorem reduceShare_round (c : Channel) (v : State) : (reduceShare c v).rnd.round = v.rnd.round := by
  unfold reduceShare
  simp only [requestStatus_eq]
  split_ifs <;> rfl

theorem reduceShare_regulated (c : Channel) (h : Regulated u t) : Regulated u (reduceShare c t) := by
  unfold reduceShare
  simp only [requestStatus_eq]
  obtain ⟨happlied, hduty, hpwm⟩ := h
  split_ifs <;> exact ⟨happlied, hduty, hpwm⟩

/-- Settles O31, by the step of a round that still works and the arithmetic of the duty. -/
theorem regulatorSteps : Obligations.RegulatorSteps := by
  intro words s ends he _
  obtain ⟨u, hm, hexec⟩ := exec_sampleSet_measured (words := words) he
  refine ⟨_, hexec, fun hworks => ?_⟩
  rw [reduceShare_round] at hworks
  obtain ⟨-, hstep⟩ := roundSample_of_working hworks
  have hregulated : Regulated u (reduceShare u.scn.current (roundSample u)) :=
    reduceShare_regulated _ (hstep ▸ regulated_spec u)
  obtain ⟨hmon, hscn⟩ := sampled_measurements u
  generalize reduceShare u.scn.current (roundSample u) = t at hregulated hmon hscn ⊢
  obtain ⟨happlied, hduty, hpwm⟩ := hregulated
  have hduty₀ : u.rnd.duty = s.rnd.duty := (congrArg Rnd.duty hm.rnd :)
  rw [← hscn, ← hmon, hduty₀] at hduty
  rw [hm.fld] at hpwm
  refine ⟨by rw [happlied, hm.rnd], fun hfold => ?_, fun hfold error step herror hpos hneg => ?_, hpwm⟩
  · rw [hduty, hfold]
    rfl
  · have hstep : regulatorStep t.rnd.applied t.scn.current.value = step := by
      subst herror
      by_cases hsign : 0 ≤ (t.rnd.applied : Int) - t.scn.current.value
      · rw [regulatorStep_nonneg hsign, hpos hsign]
      · rw [regulatorStep_neg (by omega), hneg (by omega)]
    rw [hduty, hfold, ← hstep]
    exact nextDuty_spec

/-! ### The share reduction -/

/-- The new share, from the rounded average and its rounded-up excess (R136 step 3). -/
theorem reducedShare_eq {history : List Int} {average up : Int} (hlow : average * 60 ≤ history.sum)
    (hhigh : history.sum < (average + 1) * 60) (hup : average * 5 ≤ up * 4) (hceil : up * 4 < average * 5 + 4) :
    (reducedShare history : Int) = max 1 up := by
  unfold reducedShare
  rw [Int.fdiv_eq_ediv_of_nonneg _ (by decide), Int.fdiv_eq_ediv_of_nonneg _ (by decide)]
  omega

/-- The conditions of a reduction, read off the state after the sample set (R136 step 3). -/
def ReductionDue (v t : State) : Prop :=
  t.clm.history.length = 60 ∧ (t.rnd.round = .soak ∨ t.clm.lowRun = 600) ∧ v.clm.eq.state = .held ∧
    reducedShare t.clm.history < v.clm.eq.share

/-- `t` is `v` after CLM's steps at a sample set of a working round with the usable current `i` (R136). -/
structure ShareStepped (i : Int) (v t : State) : Prop where
  history : t.clm.history = appendCurrent v.clm.history i
  lowRun : t.clm.lowRun = stepLowRun v.rnd.round i v.rnd.applied v.clm.lowRun
  round : t.rnd.round = v.rnd.round
  applied : t.rnd.applied = v.rnd.applied
  reduced : ReductionDue v t → t.clm.eq = { v.clm.eq with share := reducedShare t.clm.history } ∧
    t.rnd.pending = reducedShare t.clm.history ∧ t.rnd.pendingValid = true ∧
    t.clm.statusQueued = (v.clm.statusQueued || queueOpen v.cfg.mode)
  kept : ¬ ReductionDue v t →
    t.clm.eq = v.clm.eq ∧ t.rnd.pending = v.rnd.pending ∧ t.rnd.pendingValid = v.rnd.pendingValid

theorem reduceShare_stepped {c : Channel} {v : State} (hworks : v.rnd.round = .equalising ∨ v.rnd.round = .soak)
    (husable : c.freshness ≠ .stale) : ShareStepped c.value v (reduceShare c v) := by
  have hstep : reduceShare c v = _ := if_pos ⟨hworks, (usable_iff c).mpr husable⟩
  rw [hstep]
  simp only [requestStatus_eq]
  split_ifs with hdue
  · exact ⟨rfl, rfl, rfl, rfl, fun _ => ⟨rfl, rfl, rfl, rfl⟩, fun hno => absurd hdue hno⟩
  · exact ⟨rfl, rfl, rfl, rfl, fun hyes => absurd hyes hdue, fun _ => ⟨rfl, rfl, rfl⟩⟩

theorem reduceShare_of_idle {c : Channel} {v : State}
    (h : (v.rnd.round ≠ .equalising ∧ v.rnd.round ≠ .soak) ∨ c.freshness = .stale) : reduceShare c v = v := by
  refine if_neg ?_
  rintro ⟨hworks, husable⟩
  obtain ⟨heq, hsoak⟩ | hstale := h
  · exact hworks.elim heq hsoak
  · exact (usable_iff c).mp husable hstale

/-- What the regulation of a round leaves of its claim and its pending share. -/
theorem regulated_claims (u : State) : (regulate (applyPending (stepBand u))).clm = u.clm ∧
    (regulate (applyPending (stepBand u))).rnd.pending = u.rnd.pending ∧
    (regulate (applyPending (stepBand u))).rnd.pendingValid = false ∧
    (regulate (applyPending (stepBand u))).cfg = u.cfg := by
  unfold regulate applyPending
  split_ifs with hp
  · exact ⟨rfl, rfl, rfl, rfl⟩
  · exact ⟨rfl, rfl, Bool.eq_false_of_not_eq_true hp, rfl⟩

/-- Settles O32, by the steps of CLM at a sample set and the form of the round's own step. -/
theorem shareReduces : Obligations.ShareReduces := by
  intro words s ends he
  obtain ⟨u, hm, hexec⟩ := exec_sampleSet_measured (words := words) he
  obtain ⟨-, hscn⟩ := sampled_measurements u
  refine ⟨_, hexec, fun hidle => ?_, fun hworks hfresh => ?_⟩
  · rw [reduceShare_round, hscn] at hidle
    rw [reduceShare_of_idle hidle]
    have hframe := sampleFrame_roundSample u
    rw [hframe.history, hframe.lowRun, hm.clm]
    exact ⟨rfl, rfl⟩
  · rw [reduceShare_round] at hworks
    rw [hscn] at hfresh ⊢
    have hstepped := reduceShare_stepped hworks hfresh
    obtain ⟨-, hregulated⟩ := roundSample_of_working hworks
    obtain ⟨hclm, hpending, hvalid, hcfg⟩ := regulated_claims u
    rw [hregulated] at hstepped ⊢
    generalize regulate (applyPending (stepBand u)) = v at hstepped hclm hpending hvalid hcfg ⊢
    generalize reduceShare u.scn.current v = t at hstepped ⊢
    generalize u.scn.current.value = i at hstepped ⊢
    have heq : v.clm.eq = s.clm.eq := by rw [hclm, hm.clm]
    have hhistory : v.clm.history = s.clm.history := by rw [hclm, hm.clm]
    have hlowRun : v.clm.lowRun = s.clm.lowRun := by rw [hclm, hm.clm]
    obtain ⟨hfew, hmany⟩ := appendCurrent_spec v.clm.history i
    have hrun := hstepped.lowRun
    rw [← hstepped.round, ← hstepped.applied, hlowRun] at hrun
    rw [← hstepped.history, hhistory] at hfew hmany
    refine ⟨hfew, hmany, fun hround hlow => ?_, fun hhigh => ?_, ?_⟩
    · rw [hrun, stepLowRun, if_pos hround, if_pos hlow]
    · rw [hrun, stepLowRun]
      obtain hsoak | hhigh := hhigh
      · rw [if_neg (by simp [hsoak])]
      · rw [if_neg (by omega : ¬ 2 * i < t.rnd.applied), ite_self]
    · intro average up share reduced hlow hhigh hup hceil hshare hreduced
      have hnew : reducedShare t.clm.history = share := by
        have h := reducedShare_eq hlow hhigh hup hceil
        omega
      have hdue : reduced ↔ ReductionDue v t := by
        rw [hreduced, ReductionDue, heq, hnew]
      refine ⟨fun hyes => ?_, fun hno => ?_⟩
      · obtain ⟨hclaim, hpend, hpendValid, hstatus⟩ := hstepped.reduced (hdue.mp hyes)
        refine ⟨by rw [hclaim, heq, hnew], by rw [hpend, hnew], hpendValid, fun hopen => ?_⟩
        rw [hstatus, hcfg, hm.cfg, hopen, Bool.or_true]
      · obtain ⟨hclaim, hpend, hpendValid⟩ := hstepped.kept (mt hdue.mpr hno)
        exact ⟨hclaim.trans heq, by rw [hpend, hpending, hm.rnd], hpendValid.trans hvalid⟩

/-! ### PREPARE and TRANSFER_BACK -/

theorem windowStarted_not_working (hround : s.rnd.round = .transferBack) (h : WindowStarted s t) :
    t.rnd.round ≠ .equalising ∧ t.rnd.round ≠ .soak := by
  cases hfb : s.fld.fb.active with
  | true => rw [h.away hfb]; simp [hround]
  | false => rw [h.already hfb]; simp [State.stuckEntered]

theorem prepareEnds_not_working (o : RoundOutcome) (c : Option AbortCause) (s : State) :
    (prepareEnds o c s).rnd.round ≠ .equalising ∧ (prepareEnds o c s).rnd.round ≠ .soak :=
  not_or.mp (equaliseEnd_not_working _)

/-- Settles O33, by the tests of the two states. -/
theorem prepareAndReturnSamples : Obligations.PrepareAndReturnSamples := by
  intro words s ends he
  obtain ⟨u, hm, hexec⟩ := exec_sampleSet_measured (words := words) he
  refine ⟨fun hround r hr ho => ⟨u, _, hexec, hm, ?_⟩, fun hround => ⟨u, _, hexec, hm, ?_⟩⟩
  · have hu : u.rnd.round = .prepare := hm.round.trans hround
    have hru : u.rnd.record = some r := hm.record.trans hr
    have hsample : roundSample u = prepareSample u := by
      unfold roundSample
      rw [hu]
    unfold prepareSample at hsample
    refine ⟨fun hstale => ?_, fun hfresh htemp => ?_, fun hfresh v htemp hv => ?_⟩
    · rw [if_pos (by simp [(not_usable _).mpr hstale])] at hsample
      rw [sampled_eq hsample (prepareEnds_not_working _ _ _)]
      exact prepareEnds_spec hru ho _ _
    · rw [if_neg (by simp [(usable_iff _).mpr hfresh]), if_pos ((temperatureAborts_iff _).mpr htemp)] at hsample
      rw [sampled_eq hsample (prepareEnds_not_working _ _ _)]
      exact prepareEnds_spec hru ho _ _
    · rw [if_neg (by simp [(usable_iff _).mpr hfresh]), if_neg (by simp [temperatureAborts, htemp, hv])] at hsample
      exact sampled_eq hsample (by simp [hu])
  · have hu : u.rnd.round = .transferBack := hm.round.trans hround
    have hwait : u.rnd.currentWait = s.rnd.currentWait := (congrArg Rnd.currentWait hm.rnd :)
    have hsample : roundSample u = backSample u := by
      unfold roundSample
      rw [hu]
    unfold backSample at hsample
    rw [← hwait]
    refine ⟨fun hw hfresh hlow => ?_, fun hno => ?_⟩
    · rw [if_pos (by simp [hw, (usable_iff _).mpr hfresh, hlow])] at hsample
      have hstarted := commandFloatWithWindow_spec (s := u)
      rw [sampled_eq hsample (windowStarted_not_working hu hstarted)]
      exact hstarted
    · rw [if_neg] at hsample
      · exact sampled_eq hsample (by simp [hu])
      · simp only [Bool.and_eq_true, usable_iff, decide_eq_true_iff]
        rintro ⟨⟨hw, hfresh⟩, hlow⟩
        obtain h | h | h := hno
        · simp [h] at hw
        · exact hfresh h
        · omega

end Sys2Proof.Machine
end

section
/-! SUPPORT. The line: listening, failures, attempts. -/

namespace Sys2Proof.Machine

variable {s t u : State}

/-! ### Listening -/

theorem exec_lineIdle_fills (after : Nat) (hmode : s.cfg.mode ≠ .starting) (ha : s.lin.attempt = none)
    (hi : ∀ since, s.lin.idle.since = some since → since + 625 ≤ s.now + after) :
    exec (.lineIdle after) s =
      .next { s.elapse after with lin.idle := .full (s.now + after), lin.assembler := .ready } := by
  have hfill : s.lin.idle.canFill (s.now + after) = true := (IdleTimer.canFill_iff _ _).mpr hi
  exact if_neg (by simp [hmode, ha, hfill])

theorem exec_lineIdle_idles (after : Nat) (h : s.cfg.mode = .starting ∨ s.lin.attempt.isSome = true ∨
      ∃ since, s.lin.idle.since = some since ∧ s.now + after < since + 625) :
    exec (.lineIdle after) s = .next (s.elapse after) := by
  refine if_pos (h.imp_right fun h => h.imp_right ?_)
  rintro ⟨since, hsince, hlt⟩
  rw [← Bool.not_eq_true]
  exact fun hfill => absurd ((IdleTimer.canFill_iff _ _).mp hfill since hsince) (Nat.not_le_of_lt hlt)

/-- Between own attempts the idle timer's value is the listening timer's. -/
theorem idleTimer_listening (hmode : s.cfg.mode ≠ .starting) (ha : s.lin.attempt = none) :
    s.idleTimer = s.lin.idle.value s.resets s.now := by
  unfold State.idleTimer
  rw [if_neg hmode, ha]

theorem idleTimer_full {reached : Nat} (hmode : s.cfg.mode ≠ .starting) (ha : s.lin.attempt = none)
    (hi : s.lin.idle = .full reached) :
    (s.now ≤ reached → s.idleTimer = 12) ∧
      (reached < s.now → s.idleTimer = min 12 (Config.lineRun s.resets s.now)) := by
  rw [idleTimer_listening hmode ha, hi]
  exact ⟨fun h => if_pos h, fun h => if_neg (by omega)⟩

theorem bitTimes_eq {since now n : Nat} (hlow : n * 1000000 ≤ (now - since) * 19200)
    (hhigh : (now - since) * 19200 < (n + 1) * 1000000) : bitTimes since now = n := by
  unfold bitTimes
  omega

theorem idleTimer_counts {since n : Nat} (hmode : s.cfg.mode ≠ .starting) (ha : s.lin.attempt = none)
    (hlow : n * 1000000 ≤ (s.now - since) * 19200) (hhigh : (s.now - since) * 19200 < (n + 1) * 1000000) :
    ((∃ heard, s.lin.idle = .tail since heard ∧ s.now ≤ heard) → s.idleTimer = min 11 n) ∧
      ((s.lin.idle = .counting since ∨ ∃ heard, s.lin.idle = .tail since heard ∧ heard < s.now) →
        s.idleTimer = min 11 (min n (Config.lineRun s.resets s.now))) := by
  rw [idleTimer_listening hmode ha]
  have hbits := bitTimes_eq hlow hhigh
  refine ⟨?_, ?_⟩
  · rintro ⟨heard, hi, hnow⟩
    rw [hi, IdleTimer.value, if_pos hnow, hbits]
  · rintro (hi | ⟨heard, hi, hnow⟩)
    · rw [hi, IdleTimer.value, hbits]
    · rw [hi, IdleTimer.value, if_neg (by omega), hbits]

/-- Settles O34, command by command. -/
theorem lineListening : Obligations.LineListening := by
  refine fun after s => ⟨exec_lineIdle_fills after, exec_lineIdle_idles after, fun hmode => if_pos hmode,
    fun hmode ha => ⟨fun _ hi => idleTimer_full hmode ha hi, fun _ _ _ hlow hhigh => idleTimer_counts hmode ha hlow hhigh⟩,
    rfl, rfl, fun length n hend => ⟨fun hlong => ?_, fun hshort => if_neg (Nat.not_lt_of_le hshort)⟩, fun hready => if_neg hready,
    fun hhunt => if_pos hhunt⟩
  have htail : recessiveTail (byteBits length) = n := recessiveTail_of_end hend []
  have hexec : exec (.frameAbandoned { after := after, length := length }) s =
      .next { s.elapse after with lin.assembler := .hunt, lin.idle := idleAfter (byteBits length) (s.now + after) } :=
    if_pos hlong
  rw [hexec, idleAfter, htail]
  rfl

/-! ### Failures -/

theorem exec_dominantCount_waiting (after : Nat) (ha : s.lin.attempt = none) (hn : s.nextNotice.isSome = true) :
    exec (.dominantCount after) s =
      .next (countRetry { s.elapse after with lin.idle := .counting (s.now + after) }) :=
  if_pos (engine_waiting_iff.mpr ⟨ha, hn⟩)

theorem exec_dominantCount_idle (after : Nat) (h : s.lin.attempt.isSome = true ∨ s.nextNotice = none) :
    exec (.dominantCount after) s = .next { s.elapse after with lin.idle := .counting (s.now + after) } := by
  refine if_neg fun hwaiting => ?_
  obtain ⟨ha, hn⟩ := engine_waiting_iff.mp hwaiting
  replace ha : s.lin.attempt = none := ha
  replace hn : s.nextNotice.isSome = true := hn
  obtain h | h := h
  · simp [ha] at h
  · simp [h] at hn

/-- A bit can fail where it is dominant, and where it is recessive outside the header's data bits (R86). -/
theorem canFail_of_bit {a : Attempt} {now k : Nat} {bit : Option Bool} (hk : a.bitIndex now = k) (hbit : a.sentBit now = bit) :
    (∀ recessive, bit = some recessive → recessive = false ∨ k = 0 ∨ 9 ≤ k → a.canFail now = true) ∧
      (bit = none ∨ (bit = some true ∧ 1 ≤ k ∧ k ≤ 8) → a.canFail now = false) := by
  subst hk hbit
  have hfail := Attempt.canFail_iff a now
  have hlose := Attempt.canLose_iff a now
  refine ⟨fun recessive hsent hplace => hfail.mpr ⟨by simp [hsent], ?_⟩, fun hnone => ?_⟩
  · rw [← Bool.not_eq_true, hlose, hsent]
    rintro ⟨htrue, hlow, hhigh⟩
    cases htrue
    obtain h | h | h := hplace
    · cases h
    · omega
    · omega
  · rw [← Bool.not_eq_true, hfail]
    rintro ⟨hsent, hno⟩
    obtain h | h := hnone
    · exact hsent h
    · rw [hlose.mpr h] at hno
      cases hno

theorem exec_bitError_of_attempt (after : Nat) {a : Attempt} (ha : s.lin.attempt = some a) :
    exec (.bitError after) s =
      if a.canFail (s.elapse after).now then .next (countRetry (failAttempt a (s.elapse after))) else .next (s.elapse after) := by
  have hattempt : (s.elapse after).lin.attempt = some a := ha
  show execBitError after s = _
  unfold execBitError
  dsimp only
  rw [hattempt]

theorem failAttempt_form (a : Attempt) (s : State) {k : Nat} (hk : a.bitIndex s.now = k) : failAttempt a s =
    { s with
      lin.attempt := none
      lin.idle := .counting s.now
      lin.assembler := if k = 0 ∧ s.lin.assembler = .frame then .ready else s.lin.assembler } := by
  unfold failAttempt endAttempt
  rw [hk, Assembler.withoutStartBit_eq]
  by_cases h0 : k = 0 <;> by_cases hf : s.lin.assembler = .frame <;> simp [h0, hf]

theorem exec_bitError_idle (after : Nat) (ha : s.lin.attempt = none) :
    exec (.bitError after) s = .next (s.elapse after) := by
  show execBitError after s = _
  unfold execBitError
  simp only [State.elapse_lin, ha]

/-- Settles O35: both commands come to one more failure. -/
theorem failuresIsolate : Obligations.FailuresIsolate := by
  refine fun after s => ⟨fun ha hn hretry => ⟨_, exec_dominantCount_waiting after ha hn, countRetry_spec hretry⟩,
    exec_dominantCount_idle after, fun a k bit ha hk hbit => ?_, exec_bitError_idle after⟩
  have hplace : a.bitIndex (s.now + after) = k := hk.symm
  have hsent : a.sentBit (s.now + after) = bit := by
    rw [hbit, ← hplace]
    rfl
  obtain ⟨hfails, hstands⟩ := canFail_of_bit hplace hsent
  rw [exec_bitError_of_attempt after ha]
  refine ⟨fun recessive hr hwhere hretry => ⟨_, if_pos (hfails recessive hr hwhere), ?_⟩, fun hnone => ?_⟩
  · rw [failAttempt_form a (s.elapse after) hplace]
    exact countRetry_spec hretry
  · exact if_neg (by simp [hstands hnone])

/-! ### Attempts -/

theorem exec_attemptStart_begins (after : Nat) {k : NoticeKey} (ha : s.lin.attempt = none)
    (hi : (s.elapse after).idleTimer = 12) (hn : s.nextNotice = some k) :
    exec (.attemptStart after) s = .next (beginAttempt k (s.elapse after)) := by
  have hnext : (s.elapse after).nextNotice = some k := hn
  have hwaiting : (s.elapse after).engine = .waiting := engine_waiting_iff.mpr ⟨ha, by rw [hnext]; rfl⟩
  show execAttemptStart after s = _
  unfold execAttemptStart
  dsimp only
  rw [if_pos ⟨hwaiting, hi⟩, hnext]

theorem exec_attemptStart_idles (after : Nat)
    (h : s.lin.attempt.isSome = true ∨ (s.elapse after).idleTimer ≠ 12 ∨ s.nextNotice = none) :
    exec (.attemptStart after) s = .next (s.elapse after) := by
  refine if_neg ?_
  rintro ⟨hwaiting, hi⟩
  obtain ⟨ha, hn⟩ := engine_waiting_iff.mp hwaiting
  replace ha : s.lin.attempt = none := ha
  replace hn : s.nextNotice.isSome = true := hn
  obtain h | h | h := h
  · simp [ha] at h
  · exact h hi
  · simp [h] at hn

theorem exec_arbitrationLost_of_attempt (after : Nat) {a : Attempt} (ha : s.lin.attempt = some a) :
    exec (.arbitrationLost after) s =
      if a.canLose (s.elapse after).now then .next (endAttempt (s.elapse after)) else .next (s.elapse after) := by
  have hattempt : (s.elapse after).lin.attempt = some a := ha
  show execArbitrationLost after s = _
  unfold execArbitrationLost
  dsimp only
  rw [hattempt]

theorem exec_arbitrationLost_idle (after : Nat) (ha : s.lin.attempt = none) :
    exec (.arbitrationLost after) s = .next (s.elapse after) := by
  show execArbitrationLost after s = _
  unfold execArbitrationLost
  simp only [State.elapse_lin, ha]

theorem exec_arbitrationLost_cases (after : Nat) {a : Attempt} {i : Nat} (ha : s.lin.attempt = some a)
    (hi : i = (s.now + after - a.start) * 19200 / 1000000) :
    (1 ≤ i → i ≤ 8 → (frameBits a.frame)[i]? = some true →
      exec (.arbitrationLost after) s =
        .next { s.elapse after with lin.attempt := none, lin.idle := .counting (s.now + after) }) ∧
      (i = 0 ∨ 9 ≤ i ∨ (frameBits a.frame)[i]? ≠ some true →
        exec (.arbitrationLost after) s = .next (s.elapse after)) := by
  have hlose : a.canLose (s.now + after) = true ↔ (frameBits a.frame)[i]? = some true ∧ 1 ≤ i ∧ i ≤ 8 := by
    rw [Attempt.canLose_iff, hi]
    rfl
  rw [exec_arbitrationLost_of_attempt after ha]
  refine ⟨fun hlow hhigh hbit => if_pos (hlose.mpr ⟨hbit, hlow, hhigh⟩), fun hno => if_neg fun h => ?_⟩
  obtain ⟨hbit, hlow, hhigh⟩ := hlose.mp h
  obtain h | h | h := hno
  · omega
  · omega
  · exact h hbit

/-- The head of the queue is the first slot in R115's order that holds a notice. -/
theorem queueHead_eq (c : Clm) : c.queueHead =
    [(decide (c.eq.state = .releasing), NoticeKey.release .eq c.eq.tag),
      (decide (c.water.state = .releasing), .release .water c.water.tag),
      (decide (c.eq.state = .queued), .claim .eq c.eq.tag),
      (decide (c.water.state = .queued), .claim .water c.water.tag),
      (c.reportQueued, .report), (c.statusQueued, .status)].findSome?
        (fun slot => if slot.1 then some slot.2 else none) := by
  unfold Clm.queueHead
  split_ifs <;> simp [*]

theorem nextNotice_of_queueOpen (hrec : s.lin.recovering = false) (hopen : queueOpen s.cfg.mode = true) :
    s.nextNotice = s.clm.queueHead := by
  unfold State.nextNotice
  rw [if_neg (by simp [hrec]), if_pos hopen]

theorem nextNotice_of_queueClosed (hrec : s.lin.recovering = false) (hclosed : queueOpen s.cfg.mode = false) :
    s.nextNotice = none := by
  unfold State.nextNotice
  rw [if_neg (by simp [hrec]), if_neg (by simp [hclosed])]

/-- Settles O36, by the two commands' conditions and the queue's order. -/
theorem attemptStarts : Obligations.AttemptStarts := by
  refine ⟨fun after s k => ⟨exec_attemptStart_begins after, exec_attemptStart_idles after,
    fun ha => idleTimer_eq_twelve (s := s.elapse after) ha, fun a i ha hi => exec_arbitrationLost_cases after ha hi,
    exec_arbitrationLost_idle after⟩, fun s => ⟨fun hrec => if_pos hrec, fun hrec hmode => ?_, fun hrec hmode => ?_⟩⟩
  · refine nextNotice_of_queueClosed hrec ?_
    obtain h | h | h := hmode <;> rw [h] <;> rfl
  · refine (nextNotice_of_queueOpen hrec ?_).trans (queueHead_eq s.clm)
    obtain h | h | h := hmode <;> rw [h] <;> rfl

/-! ### Notices sent -/

theorem exec_attemptComplete {a : Attempt} (ha : s.lin.attempt = some a) {ends : Nat}
    (hends : ends = a.start + (10 * a.frame.length * 1000000 + 19199) / 19200) :
    exec .attemptComplete s =
      .next (noticeSent a.notice { frameEnds (endAttempt (s.reach ends)) with lin.retry := 0, lin.lastNotice := none }) := by
  subst hends
  show execAttemptComplete s = _
  unfold execAttemptComplete
  rw [ha]
  rfl

theorem releaseCompleted_spec (r : Resource) (tag : Nat) (u : State) :
    ((u.clm.machine r).state = .releasing → (u.clm.machine r).tag = tag →
      releaseCompleted r tag u = { u with clm := u.clm.withMachine r { u.clm.machine r with state := .none } }) ∧
    ((u.clm.machine r).state ≠ .releasing ∨ (u.clm.machine r).tag ≠ tag → releaseCompleted r tag u = u) :=
  ⟨fun hstate htag => if_pos ⟨hstate, htag⟩, fun hno => if_neg fun h => hno.elim (· h.1) (· h.2)⟩

theorem claimCompleted_spec (r : Resource) (tag : Nat) (u : State) :
    ((u.clm.machine r).state = .queued → (u.clm.machine r).tag = tag →
      claimCompleted r tag u =
        { u with
          clm :=
            u.clm.withMachine r
              { u.clm.machine r with
                state := .contending, windowTimer := some (u.now + u.cfg.config.window * 1000000) } }) ∧
    ((u.clm.machine r).state = .none →
      claimCompleted r tag u =
        State.backingOff
          { u with
            clm := u.clm.withMachine r { u.clm.machine r with state := .releasing, tag := tag, reason := .withdrawn } } r) ∧
    ((u.clm.machine r).state ≠ .none → (u.clm.machine r).state ≠ .queued ∨ (u.clm.machine r).tag ≠ tag →
      claimCompleted r tag u = u) := by
  refine ⟨fun hstate htag => if_pos ⟨hstate, htag⟩, fun hstate => ?_, fun hstate hno => ?_⟩
  · exact (if_neg fun h => by simp [hstate] at h).trans (if_pos hstate)
  · exact (if_neg fun h => hno.elim (· h.1) (· h.2)).trans (if_neg hstate)

/-- Settles O37, by the kind of the notice sent. -/
theorem attemptCompletes : Obligations.AttemptCompletes := by
  intro s a u ha ends now hends hnow hu
  have hexec := exec_attemptComplete ha hends
  have hsent : { frameEnds (endAttempt (s.reach ends)) with lin.retry := 0, lin.lastNotice := none } = u := by
    rw [hu, hnow]
    rfl
  rw [hsent] at hexec
  have hclm : u.clm = s.clm := by rw [hu]; rfl
  have hcfg : u.cfg = s.cfg := by rw [hu]; rfl
  refine ⟨_, hexec, fun r tag hkind m hm => ?_, fun r tag hkind m hm => ?_, fun hkind => ?_, fun hkind => ?_, fun hkind => ?_⟩
  · rw [hkind]
    rw [← hclm] at hm
    subst hm
    exact releaseCompleted_spec r tag u
  · rw [hkind, ← hcfg]
    rw [← hclm] at hm
    subst hm
    exact claimCompleted_spec r tag u
  · rw [hkind]
    rfl
  · rw [hkind]
    rfl
  · have haddress : u.address = s.address := by rw [hu]; rfl
    rw [hkind, ← hcfg, ← haddress]
    rfl

end Sys2Proof.Machine
end

section
/-! SUPPORT. The formats: a frame read back, a notice read back. -/

namespace Sys2Proof.Machine

variable {s t u : State}

/-! ### Fields of a frame -/

theorem byteOf_toNat {n : Nat} (h : n < 256) : (byteOf n).toNat = n := by
  rw [byteOf, BitVec.toNat_ofNat]
  omega

theorem word16_byteOf {n : Nat} (h : n < 65536) : word16 (byteOf (n / 256)) (byteOf n) = n := by
  simp only [word16, byteOf, BitVec.toNat_ofNat]
  omega

theorem crcBytes_length (bytes : List Byte) : (crcBytes bytes).length = 2 := rfl

/-- A frame that fits its header, its destination and its length byte reads back as it was written (R77). -/
theorem readFrame_encodeFrame {cls source dest : Nat} {body : List Byte} (hcls : cls < 8) (hsource : source < 32)
    (hdest : dest < 256) (hbody : body.length ≤ 24) :
    readFrame (encodeFrame cls source dest body) = some { cls := cls, source := source, dest := dest, body := body } := by
  have hlen : (byteOf body.length).toNat = body.length := byteOf_toNat (by omega)
  have hheader : (byteOf (cls * 32 + source)).toNat = cls * 32 + source := byteOf_toNat (by omega)
  unfold encodeFrame
  dsimp only [List.cons_append]
  unfold readFrame
  dsimp only
  rw [hlen, List.take_left, List.drop_left, if_pos ⟨hbody, by rw [List.length_append, crcBytes_length], rfl⟩, hheader,
    byteOf_toNat hdest, show (cls * 32 + source) / 32 = cls by omega, show (cls * 32 + source) % 32 = source by omega]

theorem decodeNotice_encodeFrame {nSite cls source dest : Nat} {body : List Byte} (hcls : cls < 8) (hsource : source < 32)
    (hdest : dest < 256) (hbody : body.length ≤ 24) :
    decodeNotice nSite (encodeFrame cls source dest body) =
      readNotice nSite { cls := cls, source := source, dest := dest, body := body } := by
  rw [decodeNotice, readFrame_encodeFrame hcls hsource hdest hbody]
  rfl

/-! ### The body of a Status -/

theorem partsBytes_eq (eqPart : Option EqPart) (waterPart : Option WaterPart) : partsBytes eqPart waterPart =
    (eqPart.map eqPartBytes).getD [] ++ (waterPart.map waterPartBytes).getD [] := by
  cases eqPart <;> cases waterPart <;> rfl

theorem readEqPart_bytes (part : Option EqPart) (rest : List Byte) (h : ∀ p, part = some p → p.share < 65536 ∧ p.snapshot < 65536) :
    readEqPart part.isSome ((part.map eqPartBytes).getD [] ++ rest) = some (part, rest) := by
  cases part with
  | none => rfl
  | some p =>
    obtain ⟨hshare, hsnapshot⟩ := h p rfl
    show some (some (EqPart.mk p.tag p.phase (word16 (byteOf (p.share / 256)) (byteOf p.share))
      (word16 (byteOf (p.snapshot / 256)) (byteOf p.snapshot))), rest) = _
    rw [word16_byteOf hshare, word16_byteOf hsnapshot]

theorem readWaterPart_bytes (part : Option WaterPart) (h : ∀ p, part = some p → p.snapshot < 65536) :
    readWaterPart part.isSome ((part.map waterPartBytes).getD []) = some (part, []) := by
  cases part with
  | none => rfl
  | some p =>
    show some (some (WaterPart.mk p.tag p.phase (word16 (byteOf (p.snapshot / 256)) (byteOf p.snapshot))), []) = _
    rw [word16_byteOf (h p rfl)]

theorem statusFlagWord_bits (b : StatusBody) :
    (statusFlagWord b).getLsbD 1 = b.eqPart.isSome ∧ (statusFlagWord b).getLsbD 0 = b.waterPart.isSome := by
  unfold statusFlagWord
  cases b.eqPart.isSome <;> cases b.waterPart.isSome <;> simp

theorem statusFlagWord_flags {b : StatusBody} (h : b.flags &&& 0xFFFC#16 = b.flags) :
    statusFlagWord b &&& 0xFFFC#16 = b.flags := by
  unfold statusFlagWord
  rw [h, BitVec.and_comm, BitVec.and_or_distrib_left, BitVec.and_or_distrib_left, BitVec.and_comm, h]
  cases b.eqPart.isSome <;> cases b.waterPart.isSome <;> simp

theorem getLsbD_byteOf {w : BitVec 16} {i : Nat} (hi : i < 8) : (byteOf w.toNat).getLsbD i = w.getLsbD i := by
  rw [byteOf, BitVec.getLsbD_ofNat, decide_eq_true hi, Bool.true_and, BitVec.testBit_toNat]

theorem readStatusBody_bytes {b : StatusBody} (hflags : b.flags &&& 0xFFFC#16 = b.flags) (hscore : b.score < 65536)
    (hurgency : b.urgency < 65536) (heq : ∀ p, b.eqPart = some p → p.share < 65536 ∧ p.snapshot < 65536)
    (hwater : ∀ p, b.waterPart = some p → p.snapshot < 65536) : readStatusBody (statusBytes b) = some b := by
  obtain ⟨hbit1, hbit0⟩ := statusFlagWord_bits b
  have hword : (statusFlagWord b).toNat < 65536 := (statusFlagWord b).isLt
  have heqRead : readEqPart ((byteOf (statusFlagWord b).toNat).getLsbD 1) (partsBytes b.eqPart b.waterPart) =
      some (b.eqPart, (b.waterPart.map waterPartBytes).getD []) := by
    rw [getLsbD_byteOf (by decide), hbit1, partsBytes_eq]
    exact readEqPart_bytes b.eqPart _ heq
  have hwaterRead : readWaterPart ((byteOf (statusFlagWord b).toNat).getLsbD 0)
      ((b.waterPart.map waterPartBytes).getD []) = some (b.waterPart, []) := by
    rw [getLsbD_byteOf (by decide), hbit0]
    exact readWaterPart_bytes b.waterPart hwater
  have hbytes : statusBytes b = b.mode :: b.round :: byteOf ((statusFlagWord b).toNat / 256) ::
      byteOf (statusFlagWord b).toNat :: byteOf (b.score / 256) :: byteOf b.score :: byteOf (b.urgency / 256) ::
      byteOf b.urgency :: partsBytes b.eqPart b.waterPart := rfl
  rw [hbytes]
  unfold readStatusBody
  simp only [heqRead, hwaterRead, word16_byteOf hword, word16_byteOf hscore, word16_byteOf hurgency, BitVec.ofNat_toNat,
    BitVec.setWidth_eq, statusFlagWord_flags hflags]

/-! ### The notices -/

theorem statusBytes_length (b : StatusBody) : (statusBytes b).length ≤ 24 := by
  have hbytes : (statusBytes b).length = 8 + (partsBytes b.eqPart b.waterPart).length := by
    simp [statusBytes, be16]
    omega
  rw [hbytes, partsBytes_eq, List.length_append]
  cases b.eqPart <;> cases b.waterPart <;> simp [eqPartBytes, waterPartBytes, be16]

/-- Settles O38, kind by kind. -/
theorem noticesRoundTrip : Obligations.NoticesRoundTrip := by
  intro nSite n hsite hfits
  cases n with
  | directive dest code param =>
    obtain ⟨hdest, hparam⟩ := hfits
    rw [noticeFrame, decodeNotice_encodeFrame (by decide) (by decide) (by omega) (by simp [be16])]
    exact (if_pos ⟨rfl, hdest⟩).trans (by rw [word16_byteOf hparam])
  | release source resource tag reason =>
    obtain ⟨hlow, hhigh⟩ := hfits
    rw [noticeFrame, decodeNotice_encodeFrame (by decide) (by omega) (by decide) (by simp)]
    exact if_pos ⟨by simp [hlow, hhigh], rfl⟩
  | claim source resource tag snapshot share =>
    obtain ⟨hlow, hhigh, hsnapshot, hshare⟩ := hfits
    rw [noticeFrame, decodeNotice_encodeFrame (by decide) (by omega) (by decide) (by simp [be16])]
    exact (if_pos ⟨by simp [hlow, hhigh], rfl⟩).trans (by rw [word16_byteOf hsnapshot, word16_byteOf hshare])
  | report source body =>
    obtain ⟨hlow, hhigh, hbody⟩ := hfits
    rw [noticeFrame, decodeNotice_encodeFrame (by decide) (by omega) (by decide) (by omega)]
    exact if_pos ⟨by simp [hlow, hhigh], rfl, hbody⟩
  | status source b =>
    obtain ⟨hlow, hhigh, hflags, hscore, hurgency, heq, hwater⟩ := hfits
    rw [noticeFrame, decodeNotice_encodeFrame (by decide) (by omega) (by decide) (statusBytes_length b)]
    exact (if_pos ⟨by simp [hlow, hhigh], rfl⟩).trans (by rw [readStatusBody_bytes hflags hscore hurgency heq hwater]; rfl)

end Sys2Proof.Machine
end

section
/-! SUPPORT. The own notices: what they carry, that they are valid and accepted. -/

namespace Sys2Proof.Machine

variable {s t u : State}

/-! ### Flags -/

theorem getLsbD_flagBit {b : Bool} {i j : Nat} (hj : j < 16) : (flagBit b i).getLsbD j = (b && decide (j = i)) := by
  cases b with
  | false => simp [flagBit]
  | true =>
    simp only [flagBit, if_true, BitVec.getLsbD_shiftLeft, BitVec.getLsbD_one, Bool.true_and]
    by_cases h : j = i
    · simp [h]
      omega
    · simp [h]
      omega

/-- The bits of the Status flags, by their place. -/
theorem statusFlags_bit (s : State) {j : Nat} (hj : j < 16) : s.statusFlags.getLsbD j =
    ((availableFlag s.rnd.round && decide (j = 15)) || (s.acc.discharging && decide (j = 14)) ||
      (s.cfg.hold && decide (j = 13)) || (s.rnd.inhibit && decide (j = 12)) ||
      (s.rnd.round == .stuck && decide (j = 11)) || (s.wat.dry && decide (j = 10)) ||
      (s.acc.uncertain && decide (j = 9)) || (s.acc.restarted && decide (j = 8)) ||
      (s.wat.unexplained && decide (j = 7)) || (s.mon.devAlert && decide (j = 6))) := by
  simp only [State.statusFlags, BitVec.getLsbD_or, getLsbD_flagBit hj]

theorem statusFlags_masked (s : State) : s.statusFlags &&& 0xFFFC#16 = s.statusFlags := by
  refine BitVec.eq_of_getLsbD_eq fun j hj => ?_
  rw [BitVec.getLsbD_and]
  have hmask : ∀ j < 16, (0xFFFC#16).getLsbD j = decide (2 ≤ j) := by decide
  rw [hmask j hj]
  by_cases hlow : 2 ≤ j
  · simp [hlow]
  · rw [statusFlags_bit s hj]
    have hsmall : j = 0 ∨ j = 1 := by omega
    obtain rfl | rfl := hsmall <;> simp

theorem statusShows_own (s : State) : StatusShows s (ownStatus s) := by
  have hbit (j : Nat) (hj : j < 16) := statusFlags_bit s hj
  constructor
  case round =>
    show [RoundState.float, .due, .claiming, .prepare, .transferOut, .equalising, .soak, .transferBack, .rest, .waterDue,
      .waterClaiming, .watering, .inhibited, .stuck][(byteOf (roundCode s.rnd.round)).toNat]? = some s.rnd.round
    cases s.rnd.round <;> rfl
  case available =>
    show s.statusFlags.getLsbD 15 = true ↔ _
    rw [hbit 15 (by decide)]
    cases s.rnd.round <;> simp [availableFlag]
  case stuck =>
    show s.statusFlags.getLsbD 11 = true ↔ _
    rw [hbit 11 (by decide)]
    simp
  case unused =>
    intro j hj
    show s.statusFlags.getLsbD j = false
    rw [hbit j (by omega)]
    simp
    omega
  all_goals
    refine (hbit _ (by decide)).trans ?_
    simp

/-! ### The claim parts -/

theorem shownPhase_cases {st : ClaimState} {ph : ClaimPhase} (h : shownPhase st = some ph) :
    (st = .contending ∧ phaseCode ph = 1#8) ∨ (st = .held ∧ phaseCode ph = 2#8) := by
  cases st <;> cases h
  · exact .inl ⟨rfl, rfl⟩
  · exact .inr ⟨rfl, rfl⟩

theorem shownPhase_isSome {st : ClaimState} (h : st = .contending ∨ st = .held) : ∃ ph, shownPhase st = some ph := by
  obtain rfl | rfl := h <;> exact ⟨_, rfl⟩

theorem ownEqPart_some {m : ClaimMachine} {e : EqPart} (h : ownEqPart m = some e) :
    ∃ ph, shownPhase m.state = some ph ∧
      e = { tag := byteOf m.tag, phase := phaseCode ph, share := m.share, snapshot := m.snapshot } := by
  obtain ⟨ph, hph, rfl⟩ := Option.map_eq_some_iff.mp h
  exact ⟨ph, hph, rfl⟩

theorem ownWaterPart_some {m : ClaimMachine} {e : WaterPart} (h : ownWaterPart m = some e) :
    ∃ ph, shownPhase m.state = some ph ∧ e = { tag := byteOf m.tag, phase := phaseCode ph, snapshot := m.snapshot } := by
  obtain ⟨ph, hph, rfl⟩ := Option.map_eq_some_iff.mp h
  exact ⟨ph, hph, rfl⟩

theorem ClaimMachine.InRange.tag_lt {m : ClaimMachine} (h : m.InRange) : m.tag < 256 := Nat.lt_succ_of_le h.tag

/-- A claim shown has a tag, and its tag's byte is not 0. -/
theorem ClaimMachine.InRange.shown_tag {m : ClaimMachine} (h : m.InRange) {ph : ClaimPhase}
    (hph : shownPhase m.state = some ph) : byteOf m.tag ≠ 0#8 := by
  have hgiven : 1 ≤ m.tag := h.given (by rintro he; rw [he] at hph; cases hph)
  intro hzero
  have htag := byteOf_toNat h.tag_lt
  rw [hzero] at htag
  simp at htag
  omega

theorem partsShow_own (heq : s.clm.eq.InRange) (hwater : s.clm.water.InRange) (hrec : s.lin.recovering = false) :
    PartsShow s (ownStatus s) := by
  have heqPart : (ownStatus s).eqPart = ownEqPart s.clm.eq := if_neg (by simp [hrec])
  have hwaterPart : (ownStatus s).waterPart = ownWaterPart s.clm.water := if_neg (by simp [hrec])
  constructor
  · intro e he
    obtain ⟨ph, hph, rfl⟩ := ownEqPart_some (heqPart.symm.trans he)
    exact shownPhase_cases hph
  · intro hstate
    obtain ⟨ph, hph⟩ := shownPhase_isSome hstate
    exact ⟨_, heqPart.trans (by rw [ownEqPart, hph]; rfl), byteOf_toNat heq.tag_lt, rfl, rfl⟩
  · intro e he
    obtain ⟨ph, hph, rfl⟩ := ownWaterPart_some (hwaterPart.symm.trans he)
    exact shownPhase_cases hph
  · intro hstate
    obtain ⟨ph, hph⟩ := shownPhase_isSome hstate
    exact ⟨_, hwaterPart.trans (by rw [ownWaterPart, hph]; rfl), byteOf_toNat hwater.tag_lt, rfl⟩

/-! ### The own Status is accepted -/

theorem presentedScore_le {c : Configuration} {a : Acc} (h : a.InRange c) : a.presentedScore ≤ 1000 := by
  obtain ⟨htt, htq, hts⟩ := h.terms
  unfold Acc.presentedScore
  split_ifs <;> omega

theorem phaseCode_listed (ph : ClaimPhase) : phaseCode ph = 1#8 ∨ phaseCode ph = 2#8 := by
  cases ph
  · exact .inl rfl
  · exact .inr rfl

theorem ownEqPart_inRange {m : ClaimMachine} (h : m.InRange) {e : EqPart} (he : ownEqPart m = some e) :
    e.tag ≠ 0#8 ∧ (e.phase = 1#8 ∨ e.phase = 2#8) ∧ e.snapshot ≤ 1000 ∧ e.share ≤ 5000 := by
  obtain ⟨ph, hph, rfl⟩ := ownEqPart_some he
  exact ⟨h.shown_tag hph, phaseCode_listed ph, h.snapshot, h.share⟩

theorem ownWaterPart_inRange {m : ClaimMachine} (h : m.InRange) {e : WaterPart} (he : ownWaterPart m = some e) :
    e.tag ≠ 0#8 ∧ (e.phase = 1#8 ∨ e.phase = 2#8) ∧ e.snapshot ≤ 1000 := by
  obtain ⟨ph, hph, rfl⟩ := ownWaterPart_some he
  exact ⟨h.shown_tag hph, phaseCode_listed ph, h.snapshot⟩

theorem ownStatus_eqPart {e : EqPart} (he : (ownStatus s).eqPart = some e) : ownEqPart s.clm.eq = some e := by
  simp only [ownStatus] at he
  split_ifs at he
  exact he

theorem ownStatus_waterPart {e : WaterPart} (he : (ownStatus s).waterPart = some e) : ownWaterPart s.clm.water = some e := by
  simp only [ownStatus] at he
  split_ifs at he
  exact he

theorem roundCode_le (r : RoundState) : (byteOf (roundCode r)).toNat ≤ 13 := by
  cases r <;> decide

/-- The mode an own Status carries: JOINING in a recovery, else the node's own (R81, R91). -/
theorem ownStatus_mode (hsends : if s.lin.recovering then True else queueOpen s.cfg.mode = true) :
    (s.lin.recovering = true ∧ (ownStatus s).mode = 1#8) ∨
      (s.lin.recovering = false ∧ ((ownStatus s).mode = 1#8 ∧ s.cfg.mode = .joining ∨
        (ownStatus s).mode = 2#8 ∧ s.cfg.mode = .run ∨ (ownStatus s).mode = 3#8 ∧ s.cfg.mode = .monitorOnly)) := by
  cases hrec : s.lin.recovering with
  | true => exact .inl ⟨rfl, if_pos hrec⟩
  | false =>
    rw [hrec] at hsends
    have hmode : (ownStatus s).mode = byteOf (modeCode s.cfg.mode) := if_neg (by simp [hrec])
    rw [hmode]
    refine .inr ⟨rfl, ?_⟩
    cases hm : s.cfg.mode with
    | joining => exact .inl ⟨rfl, rfl⟩
    | run => exact .inr (.inl ⟨rfl, rfl⟩)
    | monitorOnly => exact .inr (.inr ⟨rfl, rfl⟩)
    | starting | isolated | silent => rw [hm] at hsends; cases hsends

theorem ownStatus_acceptable (h : ValuesInRange s) (hsends : if s.lin.recovering then True else queueOpen s.cfg.mode = true) :
    (ownStatus s).Acceptable where
  mode := by
    obtain ⟨-, hm⟩ | ⟨-, ⟨hm, -⟩ | ⟨hm, -⟩ | ⟨hm, -⟩⟩ := ownStatus_mode hsends
    · exact .inl hm
    · exact .inl hm
    · exact .inr (.inl hm)
    · exact .inr (.inr hm)
  round := roundCode_le _
  score := presentedScore_le h.account
  urgency := h.account.urgency
  eqPart e he := by
    obtain ⟨htag, hphase, hsnapshot, -⟩ := ownEqPart_inRange h.eq (ownStatus_eqPart he)
    exact ⟨htag, hphase, hsnapshot⟩
  waterPart e he := ownWaterPart_inRange h.water (ownStatus_waterPart he)

/-! ### The Report -/

theorem be16_value {n : Nat} (h : n < 65536) : (0 * 256 + (byteOf (n / 256)).toNat) * 256 + (byteOf n).toNat = n := by
  simp only [byteOf, BitVec.toNat_ofNat]
  omega

theorem be24_value {n : Nat} (h : n < 16777216) :
    ((0 * 256 + (byteOf (n / 65536)).toNat) * 256 + (byteOf (n / 256)).toNat) * 256 + (byteOf n).toNat = n := by
  simp only [byteOf, BitVec.toNat_ofNat]
  omega

theorem fieldAt_one {body rest : List Byte} {i : Nat} {a : Byte} (h : body.drop i = a :: rest) :
    fieldAt body i 1 = 0 * 256 + a.toNat := by
  simp only [fieldAt, h, List.take_succ_cons, List.take_zero, List.foldl_cons, List.foldl_nil]

theorem fieldAt_two {body rest : List Byte} {i : Nat} {a b : Byte} (h : body.drop i = a :: b :: rest) :
    fieldAt body i 2 = (0 * 256 + a.toNat) * 256 + b.toNat := by
  simp only [fieldAt, h, List.take_succ_cons, List.take_zero, List.foldl_cons, List.foldl_nil]

theorem fieldAt_three {body rest : List Byte} {i : Nat} {a b c : Byte} (h : body.drop i = a :: b :: c :: rest) :
    fieldAt body i 3 = ((0 * 256 + a.toNat) * 256 + b.toNat) * 256 + c.toNat := by
  simp only [fieldAt, h, List.take_succ_cons, List.take_zero, List.foldl_cons, List.foldl_nil]

/-- The byte of a last-round record reads back as its outcome and its cause. -/
theorem recordCode_reads (o : RoundOutcome) (c : Option AbortCause) :
    1 ≤ (0 * 256 + (byteOf (outcomeCode o * 16 + causeCode c)).toNat) / 16 ∧
      [RoundOutcome.complete, .timedOut, .aborted, .yielded, .dry,
        .conflict][(0 * 256 + (byteOf (outcomeCode o * 16 + causeCode c)).toNat) / 16 - 1]? = some o ∧
      [none, some AbortCause.charger, some .transfer, some .position, some .currentStale, some .temperature, some .stop,
        some .line, some .clash][(0 * 256 + (byteOf (outcomeCode o * 16 + causeCode c)).toNat) % 16]? = some c := by
  cases c with
  | none => cases o <;> decide
  | some c => cases o <;> cases c <;> decide

theorem recordShown_own (r : Option LastRecord) (h : ∀ l, r = some l → l.minutes ≤ 65535) :
    RecordShown r (0 * 256 + (recordByteOf r).toNat)
      ((0 * 256 + (byteOf (recordMinutes r / 256)).toNat) * 256 + (byteOf (recordMinutes r)).toNat) := by
  cases r with
  | none => exact ⟨fun _ => ⟨rfl, rfl⟩, fun l hl => (nomatch hl), fun l hl => (nomatch hl), fun l hl => (nomatch hl)⟩
  | some l =>
    have hminutes : l.minutes < 65536 := Nat.lt_succ_of_le (h l rfl)
    obtain ⟨hone, houtcome, hcause⟩ := recordCode_reads l.outcome l.cause
    refine ⟨fun hl => (nomatch hl), ?_, ?_, ?_⟩
    · rintro _ ⟨⟩; exact ⟨hone, houtcome⟩
    · rintro _ ⟨⟩; exact hcause
    · rintro _ ⟨⟩; exact be16_value hminutes

/-- The bits of a Report's flag byte, by their place. -/
theorem reportFlags_bit (s : State) {j : Nat} (hj : j < 8) : s.reportFlags.getLsbD j =
    ((s.rnd.inhibit && decide (j = 7)) || (s.wat.dry && decide (j = 6)) || (s.acc.uncertain && decide (j = 5)) ||
      (s.acc.restarted && decide (j = 4)) || (s.cfg.clamped && decide (j = 3)) || (s.wat.unexplained && decide (j = 2)) ||
      (s.acc.forceEq && decide (j = 1)) || (s.acc.forceWater && decide (j = 0))) := by
  unfold State.reportFlags
  rw [BitVec.getLsbD_extractLsb', decide_eq_true hj, Bool.true_and, Nat.zero_add]
  simp only [BitVec.getLsbD_or, getLsbD_flagBit (show j < 16 by omega)]

theorem staleCount_le (h : ChannelsInRange s) (hconfig : ConfigInRange s.cfg.config) : s.scn.staleCount ≤ 28 := by
  have hcount := h.stale.trans (countStale_eq _ _ _ _ _)
  have hle : s.scn.staleCount ≤ (s.scn.blocs ++ [s.scn.current, s.scn.voltage, s.scn.pilot, s.scn.ambient]).length :=
    hcount ▸ List.countP_le_length
  rw [List.length_append, h.blocs.1] at hle
  exact hle.trans (Nat.add_le_add_right hconfig.blocCount.2 4)

theorem reportShows_own (h : ValuesInRange s) : ReportShows s (ownReport s) := by
  obtain ⟨htt, htq, hts⟩ := h.account.terms
  have hcharge : s.acc.charge / 360 < 16777216 := by
    have hq : s.acc.charge ≤ s.cfg.config.capacity * 36000 := h.account.charge
    have hc := h.config.capacity.2
    omega
  have hdischarged : s.acc.discharged / 360 < 16777216 := by
    have hd : s.acc.discharged ≤ 4294967295 := h.account.discharged
    omega
  have hdeficit : s.acc.deficit / 1000 < 65536 := by
    have hd := h.account.deficit
    omega
  constructor
  case length => rfl
  case charge => exact (fieldAt_three rfl).trans (be24_value hcharge)
  case discharged => exact (fieldAt_three rfl).trans (be24_value hdischarged)
  case deficit => exact (fieldAt_two rfl).trans (be16_value hdeficit)
  case hours => exact (fieldAt_two rfl).trans (be16_value (Nat.lt_succ_of_le h.account.hours))
  case terms =>
    exact ⟨(fieldAt_two rfl).trans (be16_value (by omega)), (fieldAt_two rfl).trans (be16_value (by omega)),
      (fieldAt_two rfl).trans (be16_value (by omega))⟩
  case lastEq =>
    rw [fieldAt_one rfl, fieldAt_two rfl]
    exact recordShown_own s.rnd.lastEq fun l hl => h.records l (.inl hl)
  case lastWater =>
    rw [fieldAt_one rfl, fieldAt_two rfl]
    exact recordShown_own s.rnd.lastWater fun l hl => h.records l (.inr hl)
  case flags =>
    intro i flag hmem
    show s.reportFlags.getLsbD i = flag
    simp only [List.mem_cons, Prod.mk.injEq, List.not_mem_nil, or_false] at hmem
    rw [reportFlags_bit s (by omega : i < 8)]
    rcases hmem with ⟨rfl, rfl⟩ | ⟨rfl, rfl⟩ | ⟨rfl, rfl⟩ | ⟨rfl, rfl⟩ | ⟨rfl, rfl⟩ | ⟨rfl, rfl⟩ | ⟨rfl, rfl⟩ | ⟨rfl, rfl⟩ <;>
      simp
  case stale =>
    have hstale := staleCount_le h.channels h.config
    rw [fieldAt_one (a := byteOf s.scn.staleCount) rfl, byteOf_toNat (by omega), Nat.zero_mul, Nat.zero_add]

/-! ### The notice at the head of the queue -/

theorem queueHead_claim {c : Clm} {r : Resource} {tag : Nat} (h : c.queueHead = some (.claim r tag)) :
    (c.machine r).state = .queued ∧ (c.machine r).tag = tag := by
  unfold Clm.queueHead at h
  split_ifs at h with h1 h2 h3 h4 <;> cases h
  · exact ⟨h3, rfl⟩
  · exact ⟨h4, rfl⟩

theorem queueHead_release {c : Clm} {r : Resource} {tag : Nat} (h : c.queueHead = some (.release r tag)) :
    (c.machine r).state = .releasing ∧ (c.machine r).tag = tag := by
  unfold Clm.queueHead at h
  split_ifs at h with h1 h2 <;> cases h
  · exact ⟨h1, rfl⟩
  · exact ⟨h2, rfl⟩

/-- A notice other than the recovery Status is the head of the queue. -/
theorem nextNotice_queue {k : NoticeKey} (h : s.nextNotice = some k) (hk : k ≠ .recovery) : s.clm.queueHead = some k := by
  unfold State.nextNotice at h
  split_ifs at h
  · cases h
    exact absurd rfl hk
  · exact h

theorem ValuesInRange.machine (h : ValuesInRange s) (r : Resource) : (s.clm.machine r).InRange := by
  cases r
  · exact h.eq
  · exact h.water

/-- What the part sends from an address of the site fits the fields of its frame and the table of R78. -/
theorem buildNotice_fits (h : ValuesInRange s) (hlow : 1 ≤ s.address) (hhigh : s.address ≤ s.cfg.config.nSite) (k : NoticeKey) :
    (buildNotice s k).Fits s.cfg.config.nSite := by
  have hstatus : Notice.Fits s.cfg.config.nSite (.status s.address (ownStatus s)) := by
    refine ⟨hlow, hhigh, statusFlags_masked s, ?_, ?_, fun p hp => ?_, fun p hp => ?_⟩
    · exact Nat.lt_of_le_of_lt (presentedScore_le h.account) (by decide)
    · exact Nat.lt_of_le_of_lt h.account.urgency (by decide)
    · obtain ⟨-, -, hsnapshot, hshare⟩ := ownEqPart_inRange h.eq (ownStatus_eqPart hp)
      omega
    · obtain ⟨-, -, hsnapshot⟩ := ownWaterPart_inRange h.water (ownStatus_waterPart hp)
      omega
  cases k with
  | release r tag => exact ⟨hlow, hhigh⟩
  | claim r tag =>
    have hsnapshot := (h.machine r).snapshot
    have hshare := h.eq.share
    refine ⟨hlow, hhigh, by omega, ?_⟩
    cases r
    · show s.clm.eq.share < 65536
      omega
    · exact Nat.zero_lt_succ _
  | report => exact ⟨hlow, hhigh, rfl⟩
  | status => exact hstatus
  | recovery => exact hstatus

theorem reasonCode_reads (x : ReleaseReason) : 1 ≤ (reasonCode x).toNat ∧
    [ReleaseReason.done, .withdrawn, .yielded, .aborted][(reasonCode x).toNat - 1]? = some x := by
  cases x <;> decide

theorem resourceCode_eq (r : Resource) : resourceCode r = if r = .eq then 1#8 else 2#8 := by
  cases r <;> rfl

theorem modeSent_reads (hrec : s.lin.recovering = false) (hopen : queueOpen s.cfg.mode = true) :
    [NodeMode.joining, .run, .monitorOnly][(ownStatus s).mode.toNat - 1]? = some s.cfg.mode := by
  obtain ⟨hr, -⟩ | ⟨-, ⟨hm, hmode⟩ | ⟨hm, hmode⟩ | ⟨hm, hmode⟩⟩ := ownStatus_mode (s := s) (by rw [hrec]; exact hopen)
  · rw [hrec] at hr
    cases hr
  all_goals
    rw [hm, hmode]
    rfl

/-- Settles O39, by the round trip of O38 and the parts of each own notice. -/
theorem ownNoticesAreTaken : Obligations.OwnNoticesAreTaken := by
  intro s k h hnext hlow hhigh
  have hspec := nextNotice_spec hnext
  refine ⟨noticesRoundTrip _ _ h.config.nSite.2 (buildNotice_fits h hlow hhigh k), by cases k <;> rfl, fun hk => ?_,
    fun r tag hk => ?_, fun r tag hk => ?_, fun hk => ⟨ownReport s, by rw [hk]; rfl, reportShows_own h⟩⟩
  · have hbuilt : buildNotice s k = .status s.address (ownStatus s) := by
      obtain rfl | rfl := hk <;> rfl
    have hsends : if s.lin.recovering then True else queueOpen s.cfg.mode = true := by
      split_ifs at hspec ⊢
      exact hspec.2
    refine ⟨ownStatus s, hbuilt, ownStatus_acceptable h hsends, fun hf => if_pos hf, fun hf => if_neg (by simp [hf]), rfl,
      statusShows_own s, fun hk => ?_, fun hk => ?_⟩
    · subst hk
      split_ifs at hspec with hrec
      have hrec' : s.lin.recovering = false := Bool.eq_false_of_not_eq_true hrec
      exact ⟨modeSent_reads hrec' hspec.2, partsShow_own h.eq h.water hrec'⟩
    · subst hk
      split_ifs at hspec with hrec
      · exact ⟨hrec, if_pos hrec, if_pos hrec, if_pos hrec⟩
      · exact absurd rfl hspec.1
  · subst hk
    obtain ⟨hstate, htag⟩ := queueHead_claim (nextNotice_queue hnext NoticeKey.noConfusion)
    have hm := h.machine r
    have hgiven := hm.given (by rw [hstate]; decide)
    rw [htag] at hgiven
    refine ⟨_, by rw [← resourceCode_eq]; rfl, ?_, hgiven, htag ▸ hm.tag, hm.snapshot⟩
    cases r <;> rfl
  · subst hk
    obtain ⟨hstate, htag⟩ := queueHead_release (nextNotice_queue hnext NoticeKey.noConfusion)
    have hm := h.machine r
    have hgiven := hm.given (by rw [hstate]; decide)
    rw [htag] at hgiven
    obtain ⟨hone, hreads⟩ := reasonCode_reads (s.clm.machine r).reason
    exact ⟨_, by rw [← resourceCode_eq]; rfl, hgiven, htag ▸ hm.tag, hone, hreads⟩

end Sys2Proof.Machine
end

section
/-! SUPPORT. Frames heard, and a Status against the own claims. -/

namespace Sys2Proof.Machine

variable {s t u : State} {p q : PeerRecord}

/-! ### Frames heard -/

/-- Settles O40, by the branches of a frame heard. -/
theorem framesAreHeard : Obligations.FramesAreHeard := by
  intro c after frame s hc
  rw [exec_frameCommand hc]
  refine ⟨fun hmode => congrArg _ (if_pos hmode), fun hmode hhunt => ?_, fun hmode hready hinvalid => ?_,
    fun n hmode hready hvalid hown => ?_⟩
  · have hheard : hearFrame frame (frameReader c) (s.elapse after) =
        { s.elapse after with lin.idle := idleAfter (frameBits frame) (s.now + after) } :=
      (if_neg hmode).trans (if_pos hhunt)
    rw [hheard]
    refine ⟨fun early last n hframe hend => ?_, fun hnil => ?_⟩
    · have htail : recessiveTail (frameBits frame) = n := by
        rw [hframe, frameBits, List.flatMap_append, List.flatMap_singleton]
        exact recessiveTail_of_end hend _
      rw [idleAfter, htail]
      rfl
    · rw [hnil]
      rfl
  · refine congrArg _ ((if_neg hmode).trans ((if_neg hready).trans ?_))
    have hnone : decodeNotice (frameEnds (s.elapse after)).cfg.config.nSite frame = none := hinvalid
    dsimp only
    rw [hnone]
    rfl
  · have hsome : decodeNotice (frameEnds (s.elapse after)).cfg.config.nSite frame = some n := hvalid
    have hheard : hearFrame frame (frameReader c) (s.elapse after) =
        if s.cfg.mode = .silent then s.frameHeard after else addressClash (s.frameHeard after) := by
      refine (if_neg hmode).trans ((if_neg hready).trans ?_)
      dsimp only
      rw [hsome]
      exact if_pos hown
    rw [hheard]
    refine ⟨fun hsilent => congrArg _ (if_pos hsilent), fun hsilent => ⟨_, rfl, ?_⟩⟩
    rw [if_neg hsilent]
    exact leaveLine_spec _ _

/-! ### What a Status gives the record -/

/-- The EQ claim that an accepted part shows (R97). -/
def shownEq (e : EqPart) : EqClaim :=
  { tag := e.tag.toNat, share := e.share, snapshot := e.snapshot,
    phase := if e.phase = 1#8 then .contending else .held }

/-- The WATER claim that an accepted part shows (R97). -/
def shownWater (e : WaterPart) : WaterClaim :=
  { tag := e.tag.toNat, snapshot := e.snapshot, phase := if e.phase = 1#8 then .contending else .held }

/-- The record that an accepted Status leaves of its source (R101). -/
def statusRecord (source : Nat) (b : StatusBody) : PeerRecord :=
  { address := source
    mode := if b.mode = 1#8 then .joining else if b.mode = 2#8 then .run else .monitorOnly
    available := b.flags.getLsbD 15
    discharging := b.flags.getLsbD 14
    eqClaim := b.eqPart.map shownEq
    waterClaim := b.waterPart.map shownWater
    age := 0 }

theorem phaseOf_listed {b : Byte} (h : b = 1#8 ∨ b = 2#8) :
    phaseOf b = some (if b = 1#8 then .contending else .held) := by
  obtain rfl | rfl := h <;> rfl

theorem phaseOf_some {b : Byte} {ph : ClaimPhase} (h : phaseOf b = some ph) : b = 1#8 ∨ b = 2#8 := by
  unfold phaseOf at h
  split_ifs at h with h1 h2
  · exact .inl h1
  · exact .inr h2

theorem readEqClaim_accepted {e : EqPart} (h : e.tag ≠ 0#8 ∧ (e.phase = 1#8 ∨ e.phase = 2#8) ∧ e.snapshot ≤ 1000) :
    readEqClaim e = some (shownEq e) := by
  obtain ⟨htag, hphase, hsnapshot⟩ := h
  unfold readEqClaim
  rw [if_neg (not_or.mpr ⟨htag, by omega⟩), phaseOf_listed hphase]
  rfl

theorem readWaterClaim_accepted {e : WaterPart} (h : e.tag ≠ 0#8 ∧ (e.phase = 1#8 ∨ e.phase = 2#8) ∧ e.snapshot ≤ 1000) :
    readWaterClaim e = some (shownWater e) := by
  obtain ⟨htag, hphase, hsnapshot⟩ := h
  unfold readWaterClaim
  rw [if_neg (not_or.mpr ⟨htag, by omega⟩), phaseOf_listed hphase]
  rfl

theorem readEqClaim_some {e : EqPart} {c : EqClaim} (h : readEqClaim e = some c) :
    e.tag ≠ 0#8 ∧ (e.phase = 1#8 ∨ e.phase = 2#8) ∧ e.snapshot ≤ 1000 := by
  unfold readEqClaim at h
  split_ifs at h with hbad
  obtain ⟨ph, hph, -⟩ := Option.map_eq_some_iff.mp h
  obtain ⟨htag, hsnapshot⟩ := not_or.mp hbad
  exact ⟨htag, phaseOf_some hph, by omega⟩

theorem readWaterClaim_some {e : WaterPart} {c : WaterClaim} (h : readWaterClaim e = some c) :
    e.tag ≠ 0#8 ∧ (e.phase = 1#8 ∨ e.phase = 2#8) ∧ e.snapshot ≤ 1000 := by
  unfold readWaterClaim at h
  split_ifs at h with hbad
  obtain ⟨ph, hph, -⟩ := Option.map_eq_some_iff.mp h
  obtain ⟨htag, hsnapshot⟩ := not_or.mp hbad
  exact ⟨htag, phaseOf_some hph, by omega⟩

theorem readPart_accepted {α β : Type} {read : α → Option β} {shown : α → β} {part : Option α}
    (h : ∀ e, part = some e → read e = some (shown e)) : readPart read part = some (part.map shown) := by
  cases part with
  | none => rfl
  | some e => exact congrArg (Option.map some) (h e rfl)

theorem readPart_present {α β : Type} {read : α → Option β} {part : Option α} {c : Option β}
    (h : readPart read part = some c) {e : α} (he : part = some e) : ∃ c', read e = some c' := by
  subst he
  obtain ⟨c', hc, -⟩ := Option.map_eq_some_iff.mp h
  exact ⟨c', hc⟩

theorem peerModeOf_some {b : Byte} {m : PeerMode} (h : peerModeOf b = some m) : b = 1#8 ∨ b = 2#8 ∨ b = 3#8 := by
  unfold peerModeOf at h
  split_ifs at h with h1 h2 h3
  · exact .inl h1
  · exact .inr (.inl h2)
  · exact .inr (.inr h3)

theorem peerModeOf_listed {b : Byte} (h : b = 1#8 ∨ b = 2#8 ∨ b = 3#8) :
    peerModeOf b = some (if b = 1#8 then .joining else if b = 2#8 then .run else .monitorOnly) := by
  obtain rfl | rfl | rfl := h <;> rfl

theorem renewedPeer_age (ptb : List PeerRecord) (a : Nat) : (renewedPeer ptb a).age = 0 := rfl

theorem applyStatus_accepted {b : StatusBody} (h : b.Acceptable) (ptb : List PeerRecord) (source : Nat) :
    applyStatus b (renewedPeer ptb source) = some (statusRecord source b) := by
  have heq : readPart readEqClaim b.eqPart = some (b.eqPart.map shownEq) :=
    readPart_accepted fun e he => readEqClaim_accepted (h.eqPart e he)
  have hwater : readPart readWaterClaim b.waterPart = some (b.waterPart.map shownWater) :=
    readPart_accepted fun e he => readWaterClaim_accepted (h.waterPart e he)
  unfold applyStatus
  rw [peerModeOf_listed h.mode, heq, hwater]
  refine (if_pos ⟨h.round, h.score, h.urgency⟩).trans ?_
  rw [renewedPeer_address, renewedPeer_age]
  rfl

theorem acceptable_of_applyStatus {b : StatusBody} (h : applyStatus b p = some q) : b.Acceptable := by
  unfold applyStatus at h
  split at h
  · next mode eqClaim waterClaim hmode heq hwater =>
    split_ifs at h with hrange
    obtain ⟨hround, hscore, hurgency⟩ := hrange
    refine ⟨peerModeOf_some hmode, hround, hscore, hurgency, fun e he => ?_, fun e he => ?_⟩
    · obtain ⟨c, hc⟩ := readPart_present heq he
      exact readEqClaim_some hc
    · obtain ⟨c, hc⟩ := readPart_present hwater he
      exact readWaterClaim_some hc
  · cases h

theorem applyStatus_refused {b : StatusBody} (h : ¬ b.Acceptable) (p : PeerRecord) : applyStatus b p = none :=
  Option.eq_none_iff_forall_ne_some.mpr fun _ hq => h (acceptable_of_applyStatus hq)

/-- Status: refused contents change nothing more, accepted ones update the record of the source (R97, R99, R101). -/
theorem exec_statusNotice_eq {after frame source} {b : StatusBody} (hears : Hears s frame (.status source b)) :
    exec (.statusNotice after frame) s =
      .next ((applyStatus b (renewedPeer s.ptb source)).elim (s.frameHeard after) fun q =>
        peerUpdated (renewedPeer s.ptb source) q (s.frameHeard after)) := by
  refine congrArg Host.Outcome.next ((hearFrame_eq after readStatus hears).trans ?_)
  have hread : readStatus (.status source b) (s.frameHeard after) =
      match applyStatus b (renewedPeer s.ptb source) with
      | some q => peerUpdated (renewedPeer s.ptb source) q (s.frameHeard after)
      | none => s.frameHeard after := rfl
  rw [hread]
  cases applyStatus b (renewedPeer s.ptb source) <;> rfl

/-! ### What CLM is told, and what it tests -/

theorem eqChange_tests_iff (before : Option EqClaim) (e : EqClaim) : (eqChange before (some e)).tests = true ↔
    ∀ c, before = some c → c.tag = e.tag → c.phase ≠ e.phase ∨ c.share ≠ e.share := by
  cases before with
  | none => simp [eqChange, ChangeKind.tests]
  | some c =>
    simp only [eqChange, Option.some.injEq, forall_eq']
    split_ifs with htag hchanged
    · simp [ChangeKind.tests, htag]
    · simp only [ChangeKind.tests, true_iff]
      exact fun _ => hchanged
    · simp [ChangeKind.tests, not_not.mp htag, hchanged]

theorem waterChange_tests_iff (before : Option WaterClaim) (e : WaterClaim) : (waterChange before (some e)).tests = true ↔
    ∀ c, before = some c → c.tag = e.tag → c.phase ≠ e.phase := by
  cases before with
  | none => simp [waterChange, ChangeKind.tests]
  | some c =>
    simp only [waterChange, Option.some.injEq, forall_eq']
    split_ifs with htag hchanged
    · simp [ChangeKind.tests, htag]
    · simp only [ChangeKind.tests, true_iff]
      exact fun _ => hchanged
    · simp [ChangeKind.tests, not_not.mp htag, not_not.mp hchanged]

theorem renewedPeer_eqClaim {ptb : List PeerRecord} {source : Nat} {c : EqClaim} :
    (renewedPeer ptb source).eqClaim = some c ↔ ∃ q, findPeer ptb source = some q ∧ q.eqClaim = some c := by
  unfold renewedPeer
  cases findPeer ptb source <;> simp [newPeer]

theorem renewedPeer_waterClaim {ptb : List PeerRecord} {source : Nat} {c : WaterClaim} :
    (renewedPeer ptb source).waterClaim = some c ↔ ∃ q, findPeer ptb source = some q ∧ q.waterClaim = some c := by
  unfold renewedPeer
  cases findPeer ptb source <;> simp [newPeer]

theorem testEqUpdate_of_lost {e : EqClaim} (hc : q.eqClaim = some e) (htold : (eqChange p.eqClaim (some e)).tests = true)
    (hlost : eqLoses u q e = true) : testEqUpdate p q u = claimOutranked .eq u := by
  simp only [testEqUpdate, hc, htold, hlost, Bool.and_self, if_true]

theorem testEqUpdate_of_stands (h : ∀ e, q.eqClaim = some e → (eqChange p.eqClaim (some e)).tests = true → eqLoses u q e = false) :
    testEqUpdate p q u = u := by
  unfold testEqUpdate
  cases hc : q.eqClaim with
  | none => rfl
  | some e =>
    refine if_neg fun hboth => ?_
    obtain ⟨htold, hlost⟩ := (Bool.and_eq_true _ _).mp hboth
    rw [h e hc htold] at hlost
    cases hlost

theorem testWaterUpdate_of_lost {e : WaterClaim} (hc : q.waterClaim = some e)
    (htold : (waterChange p.waterClaim (some e)).tests = true) (hlost : waterLoses u q e = true) :
    testWaterUpdate p q u = claimOutranked .water u := by
  simp only [testWaterUpdate, hc, htold, hlost, Bool.and_self, if_true]

theorem testWaterUpdate_of_stands
    (h : ∀ e, q.waterClaim = some e → (waterChange p.waterClaim (some e)).tests = true → waterLoses u q e = false) :
    testWaterUpdate p q u = u := by
  unfold testWaterUpdate
  cases hc : q.waterClaim with
  | none => rfl
  | some e =>
    refine if_neg fun hboth => ?_
    obtain ⟨htold, hlost⟩ := (Bool.and_eq_true _ _).mp hboth
    rw [h e hc htold] at hlost
    cases hlost

theorem claimTested_of_done {st : ClaimState} (h : st = .none ∨ st = .releasing) : claimTested st = false := by
  obtain rfl | rfl := h <;> rfl

theorem testEqUpdate_of_done (h : u.clm.eq.state = .none ∨ u.clm.eq.state = .releasing) : testEqUpdate p q u = u :=
  testEqUpdate_of_stands fun e _ _ => by rw [eqLoses, claimTested_of_done h, Bool.false_and, Bool.false_and]

theorem testWaterUpdate_of_done (h : u.clm.water.state = .none ∨ u.clm.water.state = .releasing) :
    testWaterUpdate p q u = u :=
  testWaterUpdate_of_stands fun e _ _ => by rw [waterLoses, claimTested_of_done h, Bool.false_and]

/-! ### Rank against the own claim -/

/-- A peer's claim against an own pending one: HELD outranks it, CONTENDING by snapshot and address (R127). -/
theorem outranks_pending {own : ClaimState} (h : claimPending own) {ph : ClaimPhase} {n a n' a' : Nat} :
    outranks ph n a (rankPhase own) n' a' = true ↔ ph = .held ∨ Outranks n a n' a' := by
  have hown : rankPhase own = .contending := by obtain rfl | rfl := h <;> rfl
  rw [hown]
  cases ph with
  | held => simp
  | contending => simp [outranks_same_phase]

theorem claimTested_of_pending {own : ClaimState} (h : claimPending own) : claimTested own = true := by
  obtain rfl | rfl := h <;> rfl

theorem eqLoses_pending_iff (h : claimPending u.clm.eq.state) {e : EqClaim} : eqLoses u q e = true ↔
    ¬ NoConflict u q e.share ∧ (e.phase = .held ∨ Outranks e.snapshot q.address u.clm.eq.snapshot u.address) := by
  rw [eqLoses, claimTested_of_pending h, Bool.true_and, Bool.and_eq_true, eqConflict_iff, outranks_pending h]

theorem waterLoses_pending_iff (h : claimPending u.clm.water.state) {e : WaterClaim} : waterLoses u q e = true ↔
    e.phase = .held ∨ Outranks e.snapshot q.address u.clm.water.snapshot u.address := by
  rw [waterLoses, claimTested_of_pending h, Bool.true_and, outranks_pending h]

/-- Only a HELD claim can outrank an own HELD one. -/
theorem eqLoses_held_contending (h : u.clm.eq.state = .held) {e : EqClaim} (he : e.phase = .contending) :
    eqLoses u q e = false := by
  rw [eqLoses, h, he, rankPhase, outranks_contending_held, Bool.and_false]

theorem waterLoses_held_contending (h : u.clm.water.state = .held) {e : WaterClaim} (he : e.phase = .contending) :
    waterLoses u q e = false := by
  rw [waterLoses, h, he, rankPhase, outranks_contending_held, Bool.and_false]

theorem eqLoses_held_iff (h : u.clm.eq.state = .held) {e : EqClaim} (he : e.phase = .held) : eqLoses u q e = true ↔
    ¬ NoConflict u q e.share ∧ Outranks e.snapshot q.address u.clm.eq.snapshot u.address := by
  rw [eqLoses, h, he, Bool.and_eq_true, Bool.and_eq_true, eqConflict_iff, rankPhase, outranks_same_phase]
  simp [claimTested]

theorem waterLoses_held_iff (h : u.clm.water.state = .held) {e : WaterClaim} (he : e.phase = .held) :
    waterLoses u q e = true ↔ Outranks e.snapshot q.address u.clm.water.snapshot u.address := by
  rw [waterLoses, h, he, Bool.and_eq_true, rankPhase, outranks_same_phase]
  simp [claimTested]

end Sys2Proof.Machine
end

section
/-! SUPPORT. A Status against the own claims: what loses, and what yields. -/

namespace Sys2Proof.Machine

variable {s t u : State} {p q : PeerRecord}

/-- CLM's test of the claim of `r` of an updated record (R128). -/
def claimTest : Resource → PeerRecord → PeerRecord → State → State
  | .eq => testEqUpdate
  | .water => testWaterUpdate

/-- The update tells CLM of a claim of `r`, new or changed, that the own claim loses to (R128). -/
def LosesOnUpdate (u : State) (p q : PeerRecord) : Resource → Prop
  | .eq => ∃ e, q.eqClaim = some e ∧ (eqChange p.eqClaim (some e)).tests = true ∧ eqLoses u q e = true
  | .water => ∃ e, q.waterClaim = some e ∧ (waterChange p.waterClaim (some e)).tests = true ∧ waterLoses u q e = true

theorem claimTest_of_loses {r : Resource} (h : LosesOnUpdate u p q r) : claimTest r p q u = claimOutranked r u := by
  cases r <;> obtain ⟨e, hc, htold, hlost⟩ := h
  · exact testEqUpdate_of_lost hc htold hlost
  · exact testWaterUpdate_of_lost hc htold hlost

theorem claimTest_of_not_loses {r : Resource} (h : ¬ LosesOnUpdate u p q r) : claimTest r p q u = u := by
  cases r
  · exact testEqUpdate_of_stands fun e hc htold => Bool.eq_false_iff.mpr fun hlost => h ⟨e, hc, htold, hlost⟩
  · exact testWaterUpdate_of_stands fun e hc htold => Bool.eq_false_iff.mpr fun hlost => h ⟨e, hc, htold, hlost⟩

/-- A machine without a claim to test. -/
def ClaimMachine.Quiet (m : ClaimMachine) : Prop := m.state = .none ∨ m.state = .releasing

theorem claimTest_of_quiet {r : Resource} (h : (u.clm.machine r).Quiet) : claimTest r p q u = u := by
  cases r
  · exact testEqUpdate_of_done h
  · exact testWaterUpdate_of_done h

/-- Where the test of `r` leaves the other machine without a claim, the update is that test. -/
theorem peerUpdated_of_quiet {r other : Resource} (hne : other ≠ r) (h : (s.clm.machine other).Quiet)
    (hleft : ((claimTest r p q (s.withRecord q)).clm.machine other).Quiet) :
    peerUpdated p q s = claimTest r p q (s.withRecord q) := by
  cases r <;> cases other
  · exact absurd rfl hne
  · exact claimTest_of_quiet (r := .water) hleft
  · exact congrArg (testWaterUpdate p q) (testEqUpdate_of_done (u := s.withRecord q) h)
  · exact absurd rfl hne

theorem peerUpdated_stands {r other : Resource} (hne : other ≠ r) (h : (s.clm.machine other).Quiet)
    (hstands : ¬ LosesOnUpdate (s.withRecord q) p q r) : peerUpdated p q s = s.withRecord q := by
  have htest : claimTest r p q (s.withRecord q) = s.withRecord q := claimTest_of_not_loses hstands
  exact (peerUpdated_of_quiet hne h (htest.symm ▸ h)).trans htest

theorem peerUpdated_loses {r other : Resource} (hne : other ≠ r) (h : (s.clm.machine other).Quiet)
    (hloses : LosesOnUpdate (s.withRecord q) p q r)
    (hleft : ((claimOutranked r (s.withRecord q)).clm.machine other).Quiet) :
    peerUpdated p q s = claimOutranked r (s.withRecord q) := by
  have htest : claimTest r p q (s.withRecord q) = claimOutranked r (s.withRecord q) := claimTest_of_loses hloses
  exact (peerUpdated_of_quiet hne h (htest.symm ▸ hleft)).trans htest

/-- What an updated record tells of its claim of `r`, in the words of the table held before (R105). -/
def ToldOf (ptb : List PeerRecord) (source : Nat) (q : PeerRecord) : Resource → Prop
  | .eq =>
      ∃ e, q.eqClaim = some e ∧ ∀ o c, findPeer ptb source = some o → o.eqClaim = some c →
        c.tag = e.tag → c.phase ≠ e.phase ∨ c.share ≠ e.share
  | .water =>
      ∃ e, q.waterClaim = some e ∧ ∀ o c, findPeer ptb source = some o → o.waterClaim = some c →
        c.tag = e.tag → c.phase ≠ e.phase

/-- The claim of `r` of an updated record beats an own pending one (R125, R127). -/
def BeatsPending (u : State) (q : PeerRecord) : Resource → Prop
  | .eq =>
      ∃ e, q.eqClaim = some e ∧ ¬ NoConflict u q e.share ∧
        (e.phase = .held ∨ Outranks e.snapshot q.address u.clm.eq.snapshot u.address)
  | .water =>
      ∃ e, q.waterClaim = some e ∧ (e.phase = .held ∨ Outranks e.snapshot q.address u.clm.water.snapshot u.address)

theorem eqChange_renewed_iff {ptb : List PeerRecord} {source : Nat} {e : EqClaim} :
    (eqChange (renewedPeer ptb source).eqClaim (some e)).tests = true ↔
      ∀ o c, findPeer ptb source = some o → o.eqClaim = some c → c.tag = e.tag → c.phase ≠ e.phase ∨ c.share ≠ e.share := by
  rw [eqChange_tests_iff]
  exact ⟨fun h o c ho hc => h c (renewedPeer_eqClaim.mpr ⟨o, ho, hc⟩), fun h c hc => by
    obtain ⟨o, ho, hc⟩ := renewedPeer_eqClaim.mp hc
    exact h o c ho hc⟩

theorem waterChange_renewed_iff {ptb : List PeerRecord} {source : Nat} {e : WaterClaim} :
    (waterChange (renewedPeer ptb source).waterClaim (some e)).tests = true ↔
      ∀ o c, findPeer ptb source = some o → o.waterClaim = some c → c.tag = e.tag → c.phase ≠ e.phase := by
  rw [waterChange_tests_iff]
  exact ⟨fun h o c ho hc => h c (renewedPeer_waterClaim.mpr ⟨o, ho, hc⟩), fun h c hc => by
    obtain ⟨o, ho, hc⟩ := renewedPeer_waterClaim.mp hc
    exact h o c ho hc⟩

theorem toldOf_of_loses {ptb : List PeerRecord} {source : Nat} {r : Resource}
    (h : LosesOnUpdate u (renewedPeer ptb source) q r) : ToldOf ptb source q r := by
  cases r <;> obtain ⟨e, hc, htold, -⟩ := h
  · exact ⟨e, hc, eqChange_renewed_iff.mp htold⟩
  · exact ⟨e, hc, waterChange_renewed_iff.mp htold⟩

theorem losesOnUpdate_pending_iff {ptb : List PeerRecord} {source : Nat} {r : Resource}
    (h : claimPending (u.clm.machine r).state) :
    LosesOnUpdate u (renewedPeer ptb source) q r ↔ ToldOf ptb source q r ∧ BeatsPending u q r := by
  cases r
  · constructor
    · rintro ⟨e, hc, htold, hlost⟩
      exact ⟨⟨e, hc, eqChange_renewed_iff.mp htold⟩, e, hc, (eqLoses_pending_iff h).mp hlost⟩
    · rintro ⟨⟨e, hc, htold⟩, e', hc', hbeats⟩
      obtain rfl : e = e' := Option.some.inj (hc.symm.trans hc')
      exact ⟨e, hc, eqChange_renewed_iff.mpr htold, (eqLoses_pending_iff h).mpr hbeats⟩
  · constructor
    · rintro ⟨e, hc, htold, hlost⟩
      exact ⟨⟨e, hc, waterChange_renewed_iff.mp htold⟩, e, hc, (waterLoses_pending_iff h).mp hlost⟩
    · rintro ⟨⟨e, hc, htold⟩, e', hc', hbeats⟩
      obtain rfl : e = e' := Option.some.inj (hc.symm.trans hc')
      exact ⟨e, hc, waterChange_renewed_iff.mpr htold, (waterLoses_pending_iff h).mpr hbeats⟩

/-- The record shows no HELD claim of `r`. -/
def ShowsNoHeld (q : PeerRecord) : Resource → Prop
  | .eq => ∀ e, q.eqClaim = some e → e.phase = .contending
  | .water => ∀ e, q.waterClaim = some e → e.phase = .contending

theorem not_losesOnUpdate_held {r : Resource} (h : (u.clm.machine r).state = .held) (hcontending : ShowsNoHeld q r) :
    ¬ LosesOnUpdate u p q r := by
  cases r
  · rintro ⟨e, hc, -, hlost⟩
    rw [eqLoses_held_contending h (hcontending e hc)] at hlost
    cases hlost
  · rintro ⟨e, hc, -, hlost⟩
    rw [waterLoses_held_contending h (hcontending e hc)] at hlost
    cases hlost

/-- The loss of a pending claim leaves the machine of the other resource. -/
theorem claimOutranked_pending_other {r other : Resource} (hne : other ≠ r) (h : claimPending (u.clm.machine r).state)
    (hround : u.rnd.round = claimingState r) : (claimOutranked r u).clm.machine other = u.clm.machine other := by
  obtain ⟨hqueued, hcontending⟩ := claimOutranked_pending_spec (r := r) (s := u) (hround.trans (by cases r <;> rfl))
  rcases h with h | h
  · rw [hqueued h]
    cases r <;> cases other <;> first | exact absurd rfl hne | rfl
  · rw [hcontending h]
    cases r <;> cases other <;> first | exact absurd rfl hne | rfl

/-- Settles O41: the record is the one reported, and CLM's test of each claim it shows decides the rest. -/
theorem statusNotices : Obligations.StatusNotices := by
  intro after frame s source b hears
  rw [exec_statusNotice_eq hears]
  refine ⟨fun h => by rw [applyStatus_refused h, Option.elim_none], fun h p hp => ?_⟩
  obtain rfl : p = statusRecord source b := hp
  rw [applyStatus_accepted h, Option.elim_some]
  refine ⟨(s.frameHeard after).withRecord (statusRecord source b), _, rfl, putPeer_spec _ _, rfl, fun hdone => ?_,
    fun r other told beats hother hquiet htold hbeats => ?_⟩
  · refine peerUpdated_stands (r := .eq) (other := .water) (fun h => nomatch h) (hdone .water) fun ⟨e, _, _, hlost⟩ => ?_
    have htested : claimTested ((s.frameHeard after).withRecord (statusRecord source b)).clm.eq.state = false :=
      claimTested_of_done (hdone .eq)
    rw [eqLoses, htested] at hlost
    cases hlost
  replace htold : told ↔ ToldOf s.ptb source (statusRecord source b) r := htold.trans (by cases r <;> rfl)
  replace hbeats : beats ↔ BeatsPending ((s.frameHeard after).withRecord (statusRecord source b)) (statusRecord source b) r :=
    hbeats.trans (by cases r <;> rfl)
  have hloses (hpending : claimPending (s.clm.machine r).state) :
      LosesOnUpdate ((s.frameHeard after).withRecord (statusRecord source b)) (renewedPeer s.ptb source)
        (statusRecord source b) r ↔ told ∧ beats :=
    (losesOnUpdate_pending_iff (u := (s.frameHeard after).withRecord _) hpending).trans
      (and_congr htold hbeats).symm
  refine ⟨fun hpending hnot => peerUpdated_stands hother hquiet (mt (hloses hpending).mp hnot),
    fun hheld hnot => peerUpdated_stands hother hquiet fun hlost => ?_, fun ht hb hround => ?_⟩
  · rcases hnot with hnot | hcontending
    · exact hnot (htold.mpr (toldOf_of_loses hlost))
    · exact not_losesOnUpdate_held (u := (s.frameHeard after).withRecord _) hheld (by cases r <;> exact hcontending) hlost
  · have hupdated (hpending : claimPending (s.clm.machine r).state) :
        peerUpdated (renewedPeer s.ptb source) (statusRecord source b) (s.frameHeard after) =
          claimOutranked r ((s.frameHeard after).withRecord (statusRecord source b)) := by
      have hother' := claimOutranked_pending_other (u := (s.frameHeard after).withRecord (statusRecord source b)) hother
        hpending (hround.trans (by cases r <;> rfl))
      exact peerUpdated_loses hother hquiet ((hloses hpending).mpr ⟨ht, hb⟩) (hother'.symm ▸ hquiet)
    obtain ⟨hqueued, hcontending⟩ :=
      claimOutranked_pending_spec (s := (s.frameHeard after).withRecord (statusRecord source b)) hround
    refine ⟨fun hstate => ?_, fun hstate => ?_⟩
    · rw [hupdated (.inl hstate)]
      exact hqueued hstate
    · rw [hupdated (.inr hstate)]
      exact hcontending hstate

/-! ### HELD against HELD -/

/-- A record without a WATER claim, or no own one to test, leaves CLM's WATER test without effect. -/
theorem testWaterUpdate_of_silent (h : q.waterClaim = none ∨ u.clm.water.Quiet) : testWaterUpdate p q u = u := by
  rcases h with h | h
  · exact testWaterUpdate_of_stands fun e hc => by rw [h] at hc; cases hc
  · exact testWaterUpdate_of_done h

theorem testEqUpdate_of_silent (h : q.eqClaim = none ∨ u.clm.eq.Quiet) : testEqUpdate p q u = u := by
  rcases h with h | h
  · exact testEqUpdate_of_stands fun e hc => by rw [h] at hc; cases hc
  · exact testEqUpdate_of_done h

/-- The EQ claim outranked while HELD: already yielding it stands, otherwise it yields (R131). -/
theorem claimOutranked_eq_held (h : u.clm.eq.state = .held) : claimOutranked .eq u =
    if u.clm.eq.yielding then u else rndYield { u with clm.eq.yielding := true } :=
  claimOutranked_held_eq (r := .eq) h

theorem claimOutranked_water_held (h : u.clm.water.state = .held) : claimOutranked .water u =
    if u.clm.water.yielding then u else rndYield { u with clm.water.yielding := true } :=
  claimOutranked_held_eq (r := .water) h

/-- Outside WATERING a yield leaves the WATER machine. -/
theorem rndYield_water {r : OpenRecord} (hr : s.rnd.record = some r) (ho : r.outcome = none)
    (hx : s.rnd.round = .prepare ∨ s.rnd.round = .equalising ∨ s.rnd.round = .soak) :
    (rndYield s).clm.water = s.clm.water := by
  obtain ⟨-, -, hends⟩ := rndYield_spec s
  obtain ⟨hprepare, hworking, -⟩ := hends r hr ho
  rcases hx with hx | hx
  · exact (congrArg (fun t : State => t.clm.water) (hprepare hx).form :)
  · rw [hworking hx]
    rfl

theorem eqChange_held_tests {before : Option EqClaim} {e : EqClaim} (he : e.phase = .held)
    (h : ∀ c, before = some c → c.tag = e.tag → c.phase = .held → c.share ≠ e.share) :
    (eqChange before (some e)).tests = true :=
  eqChange_tests_iff before e |>.mpr fun c hc htag => by
    by_cases hp : c.phase = .held
    · exact .inr (h c hc htag hp)
    · exact .inl (he.symm ▸ hp)

theorem waterChange_held_tests {before : Option WaterClaim} {e : WaterClaim} (he : e.phase = .held)
    (h : ∀ c, before = some c → c.tag = e.tag → c.phase ≠ .held) : (waterChange before (some e)).tests = true :=
  waterChange_tests_iff before e |>.mpr fun c hc htag => he.symm ▸ h c hc htag

theorem shownEq_held {e : EqPart} (h : e.phase = 2#8) : (shownEq e).phase = .held := by
  rw [shownEq, h]
  rfl

theorem shownWater_held {e : WaterPart} (h : e.phase = 2#8) : (shownWater e).phase = .held := by
  rw [shownWater, h]
  rfl

theorem statusRecord_mode (source : Nat) (b : StatusBody) : (statusRecord source b).mode ≠ .unreported := by
  unfold statusRecord
  dsimp only
  split_ifs <;> exact fun h => nomatch h

/-- A HELD EQ claim, new or changed, against the own HELD one (R128, R131). -/
theorem testEqUpdate_held {e : EqClaim} (hheld : u.clm.eq.state = .held) (hc : q.eqClaim = some e) (he : e.phase = .held)
    (htold : (eqChange p.eqClaim (some e)).tests = true) :
    (u.clm.eq.yielding = true ∨ NoConflict u q e.share ∨
      ¬ Outranks e.snapshot q.address u.clm.eq.snapshot u.address → testEqUpdate p q u = u) ∧
    (u.clm.eq.yielding = false → ¬ NoConflict u q e.share → Outranks e.snapshot q.address u.clm.eq.snapshot u.address →
      testEqUpdate p q u = rndYield { u with clm.eq.yielding := true }) := by
  constructor
  · intro hstands
    by_cases hlost : eqLoses u q e = true
    · obtain ⟨hconflict, houtranks⟩ := (eqLoses_held_iff hheld he).mp hlost
      rw [testEqUpdate_of_lost hc htold hlost, claimOutranked_eq_held hheld]
      exact if_pos (hstands.resolve_right fun h => h.elim hconflict (absurd houtranks))
    · refine testEqUpdate_of_stands fun c hc' _ => ?_
      obtain rfl : e = c := Option.some.inj (hc.symm.trans hc')
      exact Bool.eq_false_iff.mpr hlost
  · intro hyielding hconflict houtranks
    rw [testEqUpdate_of_lost hc htold ((eqLoses_held_iff hheld he).mpr ⟨hconflict, houtranks⟩),
      claimOutranked_eq_held hheld]
    exact if_neg (Bool.eq_false_iff.mp hyielding)

/-- A HELD WATER claim, new or changed, against the own HELD one (R128, R131). -/
theorem testWaterUpdate_held {e : WaterClaim} (hheld : u.clm.water.state = .held) (hc : q.waterClaim = some e)
    (he : e.phase = .held) (htold : (waterChange p.waterClaim (some e)).tests = true) :
    (u.clm.water.yielding = true ∨ ¬ Outranks e.snapshot q.address u.clm.water.snapshot u.address →
      testWaterUpdate p q u = u) ∧
    (u.clm.water.yielding = false → Outranks e.snapshot q.address u.clm.water.snapshot u.address →
      testWaterUpdate p q u = rndYield { u with clm.water.yielding := true }) := by
  constructor
  · intro hstands
    by_cases hlost : waterLoses u q e = true
    · rw [testWaterUpdate_of_lost hc htold hlost, claimOutranked_water_held hheld]
      exact if_pos (hstands.resolve_right (absurd ((waterLoses_held_iff hheld he).mp hlost)))
    · refine testWaterUpdate_of_stands fun c hc' _ => ?_
      obtain rfl : e = c := Option.some.inj (hc.symm.trans hc')
      exact Bool.eq_false_iff.mpr hlost
  · intro hyielding houtranks
    rw [testWaterUpdate_of_lost hc htold ((waterLoses_held_iff hheld he).mpr houtranks), claimOutranked_water_held hheld]
    exact if_neg (Bool.eq_false_iff.mp hyielding)

/-- The part's WATER test has no effect on what its EQ test leaves. -/
theorem peerUpdated_of_eq {x : State} (h : testEqUpdate p q (s.withRecord q) = x)
    (hsilent : q.waterClaim = none ∨ s.clm.water.Quiet) (hwater : x.clm.water = s.clm.water) : peerUpdated p q s = x := by
  refine (congrArg (testWaterUpdate p q) h).trans (testWaterUpdate_of_silent (hsilent.imp_right fun hquiet => ?_))
  rw [hwater]
  exact hquiet

/-- Settles O44: a HELD claim is tested against a HELD one alone, and what a yield does is RND's by its state. -/
theorem heldClaimsYield : Obligations.HeldClaimsYield := by
  intro after frame s source b p hears hb hp
  obtain rfl := renewedPeer_unique hp
  rw [exec_statusNotice_eq hears, applyStatus_accepted hb, Option.elim_some]
  constructor
  · intro e hpart hphase hheld hother hnew
    have hshown : (statusRecord source b).eqClaim = some (shownEq e) := congrArg (Option.map shownEq) hpart
    have hsilent : (statusRecord source b).waterClaim = none ∨ s.clm.water.Quiet :=
      hother.imp_left (congrArg (Option.map shownWater))
    have hclaim := hshown.trans (congrArg some (by rw [shownEq, hphase]; rfl :
      shownEq e = { tag := e.tag.toNat, share := e.share, snapshot := e.snapshot, phase := .held }))
    obtain ⟨hstands, hyields⟩ := testEqUpdate_held (u := (s.frameHeard after).withRecord (statusRecord source b)) hheld
      hshown (shownEq_held hphase) (eqChange_held_tests (shownEq_held hphase) hnew)
    refine ⟨(s.frameHeard after).withRecord (statusRecord source b), _, statusRecord source b, _, rfl, putPeer_spec _ _, rfl,
      hclaim, rfl, rfl, statusRecord_mode _ _, rfl, rfl, rfl, fun h => peerUpdated_of_eq (hstands h) hsilent rfl,
      fun hyielding hconflict houtranks => ?_⟩
    have hyield := hyields hyielding hconflict houtranks
    obtain ⟨hback, hout, hends⟩ :=
      rndYield_spec { (s.frameHeard after).withRecord (statusRecord source b) with clm.eq.yielding := true }
    refine ⟨fun hx => peerUpdated_of_eq (hyield.trans (hback hx)) hsilent rfl,
      fun hx => peerUpdated_of_eq (hyield.trans (hout hx)) hsilent rfl, fun r hr ho => ⟨fun hx => ?_, fun hx => ?_⟩⟩
    · rw [peerUpdated_of_eq hyield hsilent (rndYield_water hr ho (.inl hx))]
      exact (hends r hr ho).1 hx
    · exact peerUpdated_of_eq (hyield.trans ((hends r hr ho).2.1 hx)) hsilent rfl
  · intro e hpart hphase hheld hother hnew
    have hshown : (statusRecord source b).waterClaim = some (shownWater e) := congrArg (Option.map shownWater) hpart
    have hsilent : (statusRecord source b).eqClaim = none ∨ s.clm.eq.Quiet :=
      hother.imp_left (congrArg (Option.map shownEq))
    have hupdated : peerUpdated (renewedPeer s.ptb source) (statusRecord source b) (s.frameHeard after) =
        testWaterUpdate (renewedPeer s.ptb source) (statusRecord source b)
          ((s.frameHeard after).withRecord (statusRecord source b)) :=
      congrArg (testWaterUpdate _ _) (testEqUpdate_of_silent (u := (s.frameHeard after).withRecord _) hsilent)
    obtain ⟨hstands, hyields⟩ := testWaterUpdate_held (u := (s.frameHeard after).withRecord (statusRecord source b)) hheld
      hshown (shownWater_held hphase) (waterChange_held_tests (shownWater_held hphase) hnew)
    have htable := (frame_peerUpdated (renewedPeer s.ptb source) (statusRecord source b) (s.frameHeard after)).ptb
    refine ⟨(s.frameHeard after).withRecord (statusRecord source b), _, rfl, ?_, fun h => hupdated.trans (hstands h),
      fun hyielding houtranks hx r hr ho => ?_⟩
    · rw [htable]
      rfl
    · rw [hupdated, hyields hyielding houtranks]
      obtain ⟨-, -, hends⟩ :=
        rndYield_spec { (s.frameHeard after).withRecord (statusRecord source b) with clm.water.yielding := true }
      exact (hends r hr ho).2.2 hx

end Sys2Proof.Machine
end

section
/-! SUPPORT. The contention window and the directives of the site panel. -/

namespace Sys2Proof.Machine

variable {s t u : State}

/-! ### The contention window -/

theorem exec_contentionWindowExpiry {r : Resource} {d : Nat} (h : (s.clm.machine r).windowTimer = some d) :
    exec (.contentionWindowExpiry r) s = .next (windowExpires r (s.reach d)) := by
  show execContentionWindowExpiry r s = _
  unfold execContentionWindowExpiry
  rw [h]

/-- The hold check of the EQ claim in the terms of the peer table, for a string in CLAIMING (R109, R123). -/
theorem holdCheck_eq_iff (hround : s.rnd.round = .claiming) : holdCheck .eq s = true ↔
    s.cfg.hold = false ∧
      s.cfg.config.rMin + 1 ≤ availableUnclaimed s.cfg.config.period s.ptb + (if s.acc.discharging then 0 else 1) ∧
      committedShare s.ptb + s.clm.eq.share ≤ s.cfg.config.eBus := by
  have hown : s.aUnclaimed = availableUnclaimed s.cfg.config.period s.ptb + (if s.acc.discharging then 0 else 1) := by
    unfold State.aUnclaimed
    cases hd : s.acc.discharging <;> simp [hround]
  simp only [holdCheck, hown, Bool.and_eq_true, Bool.not_eq_true', decide_eq_true_iff, and_assoc]
  rfl

theorem waterOccupied_false_iff {ptb : List PeerRecord} : waterOccupied ptb = false ↔ ∀ p ∈ ptb, p.waterClaim = none := by
  simp [waterOccupied]

theorem holdCheck_water_iff : holdCheck .water s = true ↔ s.cfg.hold = false ∧ ∀ p ∈ s.ptb, p.waterClaim = none := by
  rw [← waterOccupied_false_iff, holdCheck, Bool.and_eq_true, Bool.not_eq_true', Bool.not_eq_true']

theorem windowExpires_held {r : Resource} (h : holdCheck r s = true) : windowExpires r s = claimHeld r s := if_pos h

/-- A claim that fails its hold check is withdrawn, and the string waits again (R123, R124). -/
theorem windowExpires_withdrawn {r : Resource} (h : ¬ holdCheck r s = true)
    (hstate : (s.clm.machine r).state = .contending) : windowExpires r s = backToDue r (s.withdrawn r) := by
  rw [← withdraw_contending hstate]
  exact if_neg h

/-- Settles O46, by the hold check. -/
theorem eqHoldIsChecked : Obligations.EqHoldIsChecked := by
  intro s u d unclaimed committed passes htimer hstate hround hu hunclaimed hcommitted hpasses
  have hcount : availableUnclaimed u.cfg.config.period u.ptb + (if u.acc.discharging then 0 else 1) = unclaimed := by
    rw [availableUnclaimed_eq, hunclaimed, hu]
    rfl
  have hshares : committedShare u.ptb = committed := by
    rw [committedShare_eq, hcommitted, hu]
    rfl
  have hcheck : holdCheck .eq u = true ↔ passes := by
    rw [holdCheck_eq_iff (by rw [hu]; exact hround), hcount, hshares, hpasses, hu]
    rfl
  refine ⟨windowExpires .eq u, hu ▸ exec_contentionWindowExpiry htimer, fun hno => ?_, fun hyes r v hr hv => ?_⟩
  · rw [windowExpires_withdrawn (mt hcheck.mp hno) (by rw [hu]; exact hstate)]
    exact backToDue_eq (by rw [hu]; exact hround)
  · have hheld : windowExpires .eq u = if s.fld.crdy.active then enterTransferOut v else v := by
      rw [windowExpires_held (hcheck.mpr hyes), hv, hr, hu]
      rfl
    refine ⟨fun hwaits => by rw [hheld, hwaits]; rfl, fun hready => ?_⟩
    rw [hheld, if_pos hready]
    exact enterTransferOut_spec (by rw [hv]) (by rw [hr])

/-! ### The plan of a watering round -/

/-- The group records that a plan sets afresh (R164, R167). -/
theorem groupPlanned_planGroups (h8 : s.wat.groups.length = 8) (g : Fin 8) :
    GroupPlanned s g ((planGroups s.cfg.config s.acc.deficit s.wat.groups).getD g.val resetGroup) := by
  unfold planGroups
  rw [mapIdx_group _ _ h8]
  constructor
  · rintro hen target rfl
    rw [if_pos hen]
    rfl
  · intro hdis
    rw [if_neg (by omega)]
    rfl

/-- The state in which a WATER claim just held starts the groups of its plan (R123, R165, R166, R167). -/
def State.waterRoundOpened (s : State) : State :=
  { s with
    clm.water := { s.clm.water with state := .held, windowTimer := none, yielding := false }
    rnd.round := .watering
    rnd.record := some { kind := .watering, outcome := none, cause := none, openedAt := s.now }
    wat :=
      { s.wat with
        unexplained := false
        roundLimit := some (s.now + 7200000000)
        noFlow := 0
        groups := planGroups s.cfg.config s.acc.deficit s.wat.groups } }

theorem claimHeld_water_eq (s : State) : claimHeld .water s =
    startGroups (planList s.cfg.config s.waterRoundOpened.wat.groups) s.waterRoundOpened := rfl

/-- Settles O47, by the hold check: the round entered plans its groups and starts the first of them. -/
theorem waterHoldIsChecked : Obligations.WaterHoldIsChecked := by
  intro s u d passes htimer hstate hround hu hpasses
  have hcheck : holdCheck .water u = true ↔ passes := by
    rw [holdCheck_water_iff, hpasses, hu]
    rfl
  refine ⟨windowExpires .water u, hu ▸ exec_contentionWindowExpiry htimer, fun hno => ?_, fun hyes h8 => ?_⟩
  · rw [windowExpires_withdrawn (mt hcheck.mp hno) (by rw [hu]; exact hstate)]
    exact backToDue_eq (by rw [hu]; exact hround)
  · have hlength : u.waterRoundOpened.wat.groups.length = 8 := by
      rw [← h8, hu]
      exact List.length_mapIdx
    refine ⟨u.waterRoundOpened, _, planList_spec, ?_, hlength, groupPlanned_planGroups (by rw [hu]; exact h8), by rw [hu]; rfl⟩
    rw [windowExpires_held (hcheck.mpr hyes), claimHeld_water_eq]
    exact startGroups_spec u.now _ _ ⟨_, rfl, rfl, rfl⟩

/-! ### HOLD and STOP -/

/-- A directive that reaches the part acts in every mode but SILENT (R79, R197). -/
theorem panelActs_frameHeard {frame : List Byte} {n : Notice} (hears : Hears s frame n) (after : Nat)
    (h : s.cfg.mode ≠ .silent) : panelActs (s.frameHeard after).cfg.mode = true :=
  panelActs_of_mode hears.mode h

theorem panelActs_silent (h : s.cfg.mode = .silent) : panelActs s.cfg.mode = false := by
  rw [h]
  rfl

theorem exec_holdTimerExpiry {d : Nat} (h : s.cfg.holdTimer = some d) : exec .holdTimerExpiry s =
    .next (State.statusAsked { s.reach d with cfg.hold := false, cfg.holdTimer := none }) := by
  show execHoldTimerExpiry s = _
  unfold execHoldTimerExpiry
  rw [h]
  exact congrArg Host.Outcome.next (requestStatus_statusAsked _)

theorem exec_holdTimerExpiry_stopped (h : s.cfg.holdTimer = none) : exec .holdTimerExpiry s = .next s := by
  show execHoldTimerExpiry s = _
  unfold execHoldTimerExpiry
  rw [h]

/-- What HOLD does, by its parameter and the hold in force (R198). -/
theorem actHold_zero (h : panelActs s.cfg.mode = true) : actHold 0 s =
    if s.cfg.hold then State.statusAsked { s with cfg.hold := false, cfg.holdTimer := none } else s := by
  rw [← requestStatus_statusAsked]
  exact if_pos h

theorem actHold_pos {m : Nat} (h : panelActs s.cfg.mode = true) (hm : 0 < m) : actHold m s =
    State.statusAsked
      { (if s.cfg.hold then s else holdStarts s) with
        cfg.hold := true, cfg.holdTimer := some (s.now + min m 1440 * 60000000) } := by
  have hus : secondsUs (min m 1440 * 60) = min m 1440 * 60000000 := by
    unfold secondsUs
    omega
  rw [← requestStatus_statusAsked, ← hus]
  exact (if_pos h).trans (if_neg (Nat.ne_of_gt hm))

/-- A hold that starts touches no claim but a pending one (R134). -/
theorem holdStarts_of_idle (heq : ¬ claimPending s.clm.eq.state) (hwater : ¬ claimPending s.clm.water.state) :
    holdStarts s = s := by
  unfold holdStarts
  rw [holdMachine_not_pending (r := .eq) heq, holdMachine_not_pending (r := .water) hwater]

/-- The other resource. -/
def otherResource : Resource → Resource
  | .eq => .water
  | .water => .eq

theorem holdStarts_of_pending {r : Resource} (hother : ¬ claimPending (s.clm.machine (otherResource r)).state)
    (hleft : (holdMachine r s).clm.machine (otherResource r) = s.clm.machine (otherResource r)) : holdStarts s = holdMachine r s := by
  cases r
  · exact holdMachine_not_pending (r := .water) (hleft.symm ▸ hother)
  · exact congrArg (holdMachine .water) (holdMachine_not_pending (r := .eq) hother)

/-- A hold that starts in a claiming state takes its pending claim back, and the string waits again (R134). -/
theorem holdStarts_spec {r : Resource} (hround : s.rnd.round = claimingState r)
    (hother : ¬ claimPending (s.clm.machine (otherResource r)).state) :
    ((s.clm.machine r).state = .queued → holdStarts s = { s.unqueued r with rnd.round := dueState r }) ∧
    ((s.clm.machine r).state = .contending → holdStarts s = { s.withdrawn r with rnd.round := dueState r }) := by
  obtain ⟨hqueued, hcontending⟩ := holdMachine_spec (r := r) (s := s) (hround.trans (by cases r <;> rfl))
  constructor
  · intro h
    have hheld : holdMachine r s = { s.unqueued r with rnd.round := dueState r } := (hqueued h).trans (by cases r <;> rfl)
    exact (holdStarts_of_pending hother (by rw [hheld]; cases r <;> rfl)).trans hheld
  · intro h
    have hheld : holdMachine r s = { s.withdrawn r with rnd.round := dueState r } := (hcontending h).trans (by cases r <;> rfl)
    exact (holdStarts_of_pending hother (by rw [hheld]; cases r <;> rfl)).trans hheld

/-- Settles O48, by the mode, the parameter and the hold in force. -/
theorem holdSetsAndEnds : Obligations.HoldSetsAndEnds := by
  refine ⟨?_, fun s => ⟨fun d h => exec_holdTimerExpiry h, exec_holdTimerExpiry_stopped⟩⟩
  intro after frame s u dest m hears hdest hu
  have hexec : exec (.hold after frame) s = .next (actHold m u) := by
    rw [hu]
    exact congrArg Host.Outcome.next ((directive_heard after .hold actHold hears hdest).trans (if_pos rfl))
  rw [hexec]
  refine ⟨fun hsilent => congrArg _ (if_neg ?_), fun hsilent => ?_⟩
  · rw [hu, panelActs_silent (s := s.frameHeard after) hsilent]
    exact Bool.false_ne_true
  have hacts : panelActs u.cfg.mode = true := hu ▸ panelActs_frameHeard hears after hsilent
  have hhold : u.cfg.hold = s.cfg.hold := by rw [hu]; rfl
  have hnow : u.now = s.now + after := by rw [hu]; rfl
  refine ⟨fun hm h => ?_, fun hm h => ?_, fun e he => ?_⟩
  · rw [hm, actHold_zero hacts, hhold, h]
    rfl
  · rw [hm, actHold_zero hacts, hhold, h]
    rfl
  subst he
  rw [← hnow]
  refine ⟨fun hm h => ?_, fun hm h heq hwater => ?_, fun r hm h hround hother => ?_⟩
  · rw [actHold_pos hacts hm, hhold, if_pos h, hu]
    exact congrArg (fun b => Host.Outcome.next (State.statusAsked
      { s.frameHeard after with cfg.hold := b, cfg.holdTimer := some (s.now + after + min m 1440 * 60000000) })) h.symm
  · rw [actHold_pos hacts hm, hhold, h, holdStarts_of_idle (by rw [hu]; exact heq) (by rw [hu]; exact hwater)]
    rfl
  · obtain ⟨hqueued, hcontending⟩ := holdStarts_spec (s := u) (r := r) (by rw [hu]; cases r <;> exact hround)
      (by rw [hu]; cases r <;> exact hother)
    refine ⟨fun hstate => ?_, fun hstate => ?_⟩
    · rw [actHold_pos hacts hm, hhold, h, if_neg Bool.false_ne_true, hqueued (by rw [hu]; exact hstate)]
      cases r <;> rfl
    · rw [actHold_pos hacts hm, hhold, h, if_neg Bool.false_ne_true, hcontending (by rw [hu]; exact hstate)]
      cases r <;> rfl

/-- What a STOP does to a string at rest and to one that waits or moves out (R135, R149). -/
theorem stopActs_idle (h : s.rnd.round = .float ∨ s.rnd.round = .rest ∨ s.rnd.round = .inhibited ∨
    s.rnd.round = .transferBack ∨ s.rnd.round = .stuck) : stopActs s = s := by
  unfold stopActs
  rcases h with h | h | h | h | h <;> rw [h]

theorem stopActs_waiting {r : Resource} (h : s.rnd.round = dueState r) :
    stopActs s = { s.backingOff r with rnd.round := .float } := by
  unfold stopActs
  cases r <;> rw [show s.rnd.round = _ from h] <;> rfl

theorem stopActs_claiming {r : Resource} (h : s.rnd.round = claimingState r) : stopActs s = stopClaim r s := by
  unfold stopActs
  cases r <;> rw [show s.rnd.round = _ from h] <;> rfl

theorem stopActs_transferOut (hstate : s.clm.eq.state = .held) (h : s.rnd.round = .transferOut) :
    stopActs s = { s with rnd.deferred := s.rnd.deferred.or (some .stop) } := by
  unfold stopActs
  rw [h]
  exact if_pos hstate

/-- What a STOP does to a round with a HELD claim and an open record (R135, R148, R155, R175). -/
theorem stopActs_round {r : OpenRecord} (hr : s.rnd.record = some r) (ho : r.outcome = none) :
    (s.clm.eq.state = .held → s.rnd.round = .prepare →
      EqualiseEnded .aborted (some .stop) r.openedAt { s with rnd.chargerWait := none } (stopActs s)) ∧
    (s.clm.eq.state = .held → s.rnd.round = .equalising ∨ s.rnd.round = .soak →
      stopActs s = s.sentBack r .aborted (some .stop)) ∧
    (s.clm.water.state = .held → s.rnd.round = .watering →
      WateringEnded .aborted (some .stop) r.openedAt s (stopActs s)) := by
  unfold stopActs
  refine ⟨fun hstate h => ?_, fun hstate h => ?_, fun hstate h => ?_⟩
  · rw [h]
    dsimp only
    rw [if_pos hstate]
    exact prepareEnds_spec hr ho _ _
  · rcases h with h | h <;> rw [h] <;> exact (if_pos hstate).trans (goBack_eq hr ho _ _)
  · rw [h]
    dsimp only
    rw [if_pos hstate]
    exact wateringEnds_spec hr ho

/-- Settles O49, by the round state. -/
theorem stopActsByState : Obligations.StopActsByState := by
  intro after frame s u dest m hears hdest hu
  have hexec : exec (.stop after frame) s = .next (actStop m u) := by
    rw [hu]
    exact congrArg Host.Outcome.next ((directive_heard after .stop actStop hears hdest).trans (if_pos rfl))
  rw [hexec]
  refine ⟨fun hsilent => congrArg _ (if_neg ?_), fun hsilent => ?_⟩
  · rw [hu, panelActs_silent (s := s.frameHeard after) hsilent]
    exact Bool.false_ne_true
  have hacts : panelActs u.cfg.mode = true := hu ▸ panelActs_frameHeard hears after hsilent
  have hstop : actStop m u = (stopActs u).statusAsked := (if_pos hacts).trans (requestStatus_statusAsked _)
  have hrnd : u.rnd = s.rnd := by rw [hu]; rfl
  have hclm : u.clm = s.clm := by rw [hu]; rfl
  rw [← hrnd, ← hclm]
  refine ⟨stopActs u, _, congrArg _ hstop, rfl, stopActs_idle, fun r h => stopActs_waiting (by cases r <;> exact h),
    fun r h => ?_, stopActs_transferOut, fun r => stopActs_round⟩
  rw [stopActs_claiming (r := r) (by cases r <;> exact h)]
  exact stopClaim_spec

/-! ### FORCE_EQ, FORCE_WATER, CLEAR and QUERY -/

theorem actForceEq_other (m : Nat) (h : s.cfg.mode ≠ .run) : actForceEq m s = s := if_neg h

theorem actForceWater_other (m : Nat) (h : s.cfg.mode ≠ .run) : actForceWater m s = s := if_neg h

theorem actForceEq_run (m : Nat) (h : s.cfg.mode = .run) : actForceEq m s =
    State.statusAsked { s with acc.forceEq := true } := (if_pos h).trans (requestStatus_statusAsked _)

theorem actForceWater_run (m : Nat) (h : s.cfg.mode = .run) : actForceWater m s =
    State.statusAsked { s with acc.forceWater := true } := (if_pos h).trans (requestStatus_statusAsked _)

theorem actQuery_eq (m : Nat) (s : State) : actQuery m s =
    { s with clm.reportQueued := s.clm.reportQueued || queueOpen s.cfg.mode } := by
  unfold actQuery requestReport
  cases h : queueOpen s.cfg.mode <;> simp

theorem actClear_discarded (m : Nat) (h : s.cfg.mode = .silent ∨ (s.rnd.inhibit = false ∧ s.wat.dry = false)) :
    actClear m s = s := by
  refine if_neg ?_
  rcases h with h | ⟨hinhibit, hdry⟩
  · rw [panelActs_silent h]
    exact Bool.false_ne_true
  · rw [hinhibit, hdry, Bool.or_self, Bool.and_false]
    exact Bool.false_ne_true

theorem actClear_latched (m : Nat) (hacts : panelActs s.cfg.mode = true) (h : s.rnd.inhibit = true ∨ s.wat.dry = true) :
    actClear m s = (clearLatches s).statusAsked := by
  refine (if_pos ?_).trans (requestStatus_statusAsked _)
  rw [hacts, Bool.true_and, Bool.or_eq_true]
  exact h

/-- The state with both latches and the dry latch timer cleared (R199). -/
def State.unlatched (s : State) : State := { s with rnd.inhibit := false, wat.dry := false, wat.dryTimer := none }

theorem clearLatches_inhibited (h : s.rnd.round = .inhibited) :
    clearLatches s = { s.unlatched with rnd.round := .float } := if_pos h

theorem clearLatches_stuck (h : s.rnd.round = .stuck) :
    clearLatches s = commandFloatWithCheck false (enterTransferBack s.unlatched) :=
  (if_neg (by rw [show s.rnd.round = _ from h]; exact fun h => nomatch h)).trans (if_pos h)

theorem clearLatches_other (hinhibited : s.rnd.round ≠ .inhibited) (hstuck : s.rnd.round ≠ .stuck) :
    clearLatches s = s.unlatched := (if_neg hinhibited).trans (if_neg hstuck)

/-- TRANSFER_BACK entered with the outcome fixed before (R161). -/
theorem enterTransferBack_of_fixed {r : OpenRecord} {o : RoundOutcome} (hr : s.rnd.record = some r)
    (ho : r.outcome = some o) : enterTransferBack s = s.backEntered r o r.cause := by
  have hsame : { r with outcome := some o, cause := r.cause } = r := by rw [← ho]
  unfold State.backEntered
  rw [hsame, ← hr]
  rfl

/-- A STUCK string cleared tries its recovery check again (R161). -/
theorem clearLatches_recovers {r : OpenRecord} {o : RoundOutcome} (h : s.rnd.round = .stuck) (hr : s.rnd.record = some r)
    (ho : r.outcome = some o) :
    RecoveryStarted false o r.cause r.openedAt (s.unlatched.backEntered r o r.cause) (clearLatches s) := by
  rw [clearLatches_stuck h, enterTransferBack_of_fixed (s := s.unlatched) hr ho]
  exact commandFloatWithCheck_spec (r := { r with outcome := some o, cause := r.cause }) rfl rfl rfl false

/-- Settles O50, by the directive, the mode and the latches. -/
theorem forcesClearsAndQueries : Obligations.ForcesClearsAndQueries := by
  intro after frame s u dest m code hears hu
  subst hu
  have hother (d : Directive) (act : Nat → State → State) (h : code ≠ directiveCode d) :
      hearFrame frame (readDirective d act) (s.elapse after) = s.frameHeard after := directive_other_code after d act hears h
  have hidle (d : Directive) (act : Nat → State → State) (hact : act m (s.frameHeard after) = s.frameHeard after) :
      hearFrame frame (readDirective d act) (s.elapse after) = s.frameHeard after := by
    by_cases hdest : dest = 0 ∨ dest = s.address
    · rw [directive_heard after d act hears hdest, hact, ite_self]
    · exact directive_elsewhere after d act hears hdest
  have hacts (d : Directive) (act : Nat → State → State) (hdest : dest = 0 ∨ dest = s.address) (h : code = directiveCode d) :
      hearFrame frame (readDirective d act) (s.elapse after) = act m (s.frameHeard after) :=
    (directive_heard after d act hears hdest).trans (if_pos h)
  refine ⟨fun hdest => ?_, fun h => congrArg _ (hother .hold _ h), fun h => congrArg _ (hother .stop _ h), fun h => ?_, fun h => ?_,
    fun h => ?_, fun h => congrArg _ (hother .query _ h), fun hdest => ⟨fun h hrun => ?_, fun h hrun => ?_, fun h => ?_,
    fun h hmode hlatch => ?_⟩⟩
  · have helsewhere (d : Directive) (act : Nat → State → State) :
        Host.Outcome.next (hearFrame frame (readDirective d act) (s.elapse after)) =
          (.next (s.frameHeard after) : Host.Outcome State Fault Refusal) :=
      congrArg _ (directive_elsewhere after d act hears hdest)
    exact ⟨helsewhere _ _, helsewhere _ _, helsewhere _ _, helsewhere _ _, helsewhere _ _, helsewhere _ _⟩
  · exact congrArg _ (h.elim (hother .forceEq _) fun hmode => hidle _ _ (actForceEq_other m hmode))
  · exact congrArg _ (h.elim (hother .forceWater _) fun hmode => hidle _ _ (actForceWater_other m hmode))
  · exact congrArg _ (h.elim (hother .clear _) fun hdiscard => hidle _ _ (actClear_discarded m hdiscard))
  · exact congrArg _ ((hacts .forceEq _ hdest h).trans (actForceEq_run m hrun))
  · exact congrArg _ ((hacts .forceWater _ hdest h).trans (actForceWater_run m hrun))
  · exact congrArg _ ((hacts .query _ hdest h).trans (actQuery_eq m _))
  · have hclear := (hacts .clear _ hdest h).trans (actClear_latched m (panelActs_frameHeard hears after hmode) hlatch)
    exact ⟨(s.frameHeard after).unlatched, clearLatches (s.frameHeard after), _, congrArg Host.Outcome.next hclear, rfl, rfl,
      fun hround => clearLatches_inhibited hround, fun hround r o hr ho => clearLatches_recovers hround hr ho,
      fun hinhibited hstuck => clearLatches_other hinhibited hstuck⟩

end Sys2Proof.Machine
end

section
/-! SUPPORT. The moves of the relay, the edges of the level inputs, and the timers of the node. -/

namespace Sys2Proof.Machine

variable {s t u : State}

/-! ### The move out -/

theorem chargerBecomesReady_prepare (h : s.rnd.round = .prepare) : chargerBecomesReady s = enterTransferOut s := if_pos h

theorem chargerBecomesReady_other (h : s.rnd.round ≠ .prepare) : chargerBecomesReady s = s := if_neg h

theorem chargerLost_working {r : OpenRecord} (h : s.rnd.round = .equalising ∨ s.rnd.round = .soak)
    (hr : s.rnd.record = some r) (ho : r.outcome = none) : chargerLost s = s.sentBack r .aborted (some .charger) := by
  unfold chargerLost
  rcases h with h | h <;> rw [h] <;> exact goBack_eq hr ho _ _

theorem chargerLost_transferOut (h : s.rnd.round = .transferOut) :
    chargerLost s = { s with rnd.deferred := s.rnd.deferred.or (some .chargerLost) } := by
  unfold chargerLost
  rw [h]
  rfl

theorem chargerLost_other (hequalising : s.rnd.round ≠ .equalising) (hsoak : s.rnd.round ≠ .soak)
    (hout : s.rnd.round ≠ .transferOut) : chargerLost s = s := by
  unfold chargerLost
  split
  · next h => exact absurd h hequalising
  · next h => exact absurd h hsoak
  · next h => exact absurd h hout
  all_goals rfl

/-- The edge to equalise that a move out waits for (R144, R149). -/
theorem fbToEqualise_transferOut {c : Nat} (h : s.rnd.round = .transferOut) (hc : s.rnd.transferFrom = some c) :
    fbToEqualise s = if edgeEarly s.now c then moveOutFails s else moveOutSucceeds s := by
  unfold fbToEqualise
  rw [h]
  dsimp only
  rw [hc]

/-- A move out that succeeds, by the deferred cause (R149). -/
theorem moveOutSucceeds_spec {r : OpenRecord} (hr : s.rnd.record = some r) (ho : r.outcome = none)
    (hu : u = { s with rnd.transferFrom := none, rnd.deferred := none }) :
    (s.rnd.deferred = none → moveOutSucceeds s =
      { u with
        rnd.round := .equalising
        rnd.elapsed := 0
        rnd.bandTimer := 0
        rnd.duty := 0
        fld.pwmDuty := 0 }) ∧
    (s.rnd.deferred = some .stop → moveOutSucceeds s = u.sentBack r .aborted (some .stop)) ∧
    (s.rnd.deferred = some .yield → moveOutSucceeds s = u.sentBack r .yielded none) ∧
    (s.rnd.deferred = some .chargerLost → moveOutSucceeds s = u.sentBack r .aborted (some .charger)) := by
  have hru : u.rnd.record = some r := by rw [hu]; exact hr
  refine ⟨fun h => ?_, fun h => ?_, fun h => ?_, fun h => ?_⟩
  · rw [hu]
    unfold moveOutSucceeds setDuty
    rw [h]
    rfl
  all_goals
    rw [← goBack_eq hru ho, hu]
    unfold moveOutSucceeds
    rw [h]

/-- A transfer window that expires moving out (R144, R150). -/
theorem exec_transferWindowExpiry {c : Nat} (hc : s.rnd.transferFrom = some c) : exec .transferWindowExpiry s =
    .next (transferLate { s.reach (c + 250000) with rnd.transferFrom := none }) := by
  simp only [exec, execTransferWindowExpiry, hc]
  rfl

theorem transferLate_out (h : s.rnd.round = .transferOut) : transferLate s = moveOutFails s := by
  unfold transferLate
  rw [h]

theorem transferLate_back (h : s.rnd.round = .transferBack) : transferLate s = s.stuckEntered := by
  unfold transferLate
  rw [h]
  exact enterStuck_eq

/-- Settles O52, by what closes the window. -/
theorem moveOutIsJudged : Obligations.MoveOutIsJudged := by
  intro s r hr ho
  refine ⟨fun d he hround => ⟨_, stabilityTimerExpiry_of_edge he, ?_⟩, fun hround => ⟨fun d he => ?_, ?_, ?_⟩⟩
  · rw [show levelEdge .crdy true (s.settled .crdy d true) = enterTransferOut (s.settled .crdy d true) from
      chargerBecomesReady_prepare hround]
    exact enterTransferOut_spec hr ho
  · exact (stabilityTimerExpiry_of_edge he).trans (congrArg _ (chargerLost_transferOut hround))
  · intro d c u he hc hu
    have hedge : levelEdge .fb true (s.settled .fb d true) =
        if edgeEarly (max s.now d) c then moveOutFails (s.settled .fb d true) else moveOutSucceeds (s.settled .fb d true) :=
      fbToEqualise_transferOut hround hc
    refine ⟨_, stabilityTimerExpiry_of_edge he, fun hearly => ?_, fun hlate => ?_⟩
    · rw [hedge, edgeEarly_true hearly, hu]
      exact moveOutFails_spec (s := s.settled .fb d true) hr ho
    · rw [hedge, edgeEarly_false hlate]
      exact moveOutSucceeds_spec (s := s.settled .fb d true) hr ho hu
  · intro c hc
    refine ⟨_, exec_transferWindowExpiry hc, ?_⟩
    rw [transferLate_out (s := { s.reach (c + 250000) with rnd.transferFrom := none }) hround]
    exact moveOutFails_spec (s := { s.reach (c + 250000) with rnd.transferFrom := none }) hr ho

/-! ### The move back -/

/-- The edge to float on the way back, by what awaits it (R144, R145, R157). -/
theorem fbToFloat_windowed {c : Nat} (h : s.rnd.round = .transferBack) (hc : s.rnd.transferFrom = some c) :
    fbToFloat s = if edgeEarly s.now c then s.stuckEntered else equaliseEnd { s with rnd.transferFrom := none } := by
  rw [← enterStuck_eq]
  unfold fbToFloat
  rw [h]
  dsimp only
  rw [hc]

theorem fbToFloat_checked {c : RecoveryCheck} (h : s.rnd.round = .transferBack) (hwindow : s.rnd.transferFrom = none)
    (hc : s.rnd.recoveryCheck = some c) : fbToFloat s = recoverySucceeds c.latches s := by
  unfold fbToFloat
  rw [h]
  dsimp only
  rw [hwindow, hc]

theorem fbToFloat_waiting (h : s.rnd.round = .transferBack) (hwindow : s.rnd.transferFrom = none)
    (hcheck : s.rnd.recoveryCheck = none) (hwait : s.rnd.currentWait.isSome = true) :
    fbToFloat s = commandFloatWithCheck false { s with rnd.inhibit := true } := by
  unfold fbToFloat
  rw [h]
  dsimp only
  rw [hwindow, hcheck]
  exact if_pos hwait

/-- Settles O53, by what awaits the edge. -/
theorem moveBackIsJudged : Obligations.MoveBackIsJudged := by
  intro s r o hr ho hround
  refine ⟨fun d he => ⟨_, stabilityTimerExpiry_of_edge he, fun c hc => ?_, fun hwindow c hc => ?_,
    fun hwindow hcheck hwait => ?_⟩, fun c hc => ?_, fun c hc => ?_, fun w hw => ?_⟩
  · have hedge : levelEdge .fb false (s.settled .fb d false) =
        if edgeEarly (max s.now d) c then (s.settled .fb d false).stuckEntered else
          equaliseEnd { s.settled .fb d false with rnd.transferFrom := none } := fbToFloat_windowed hround hc
    refine ⟨fun hearly => ?_, fun hlate => ?_⟩
    · rw [hedge, edgeEarly_true hearly]
      rfl
    · rw [hedge, edgeEarly_false hlate]
      exact equaliseEnd_spec (s := { s.settled .fb d false with rnd.transferFrom := none }) hr ho rfl s.rnd.record
  · rw [show levelEdge .fb false (s.settled .fb d false) = recoverySucceeds c.latches (s.settled .fb d false) from
      fbToFloat_checked hround hwindow hc]
    exact equaliseEnd_spec
      (s := { s.settled .fb d false with rnd.recoveryCheck := none, rnd.inhibit := s.rnd.inhibit || c.latches }) hr ho rfl
      s.rnd.record
  · rw [show levelEdge .fb false (s.settled .fb d false) =
      commandFloatWithCheck false { s.settled .fb d false with rnd.inhibit := true } from
        fbToFloat_waiting hround hwindow hcheck hwait]
    exact commandFloatWithCheck_spec (s := { s.settled .fb d false with rnd.inhibit := true }) hr ho rfl false
  · exact (exec_transferWindowExpiry hc).trans
      (congrArg _ (transferLate_back (s := { s.reach (c + 250000) with rnd.transferFrom := none }) hround))
  · simp only [exec, execRecoveryCheckExpiry, hc]
    exact congrArg _ enterStuck_eq
  · exact ⟨_, by simp only [exec, execCurrentWaitExpiry, hw], commandFloatWithWindow_spec⟩

/-! ### Uncommanded edges -/

/-- TRANSFER_BACK entered with a recovery check (R145). -/
theorem recoveryStarted_backEntered (latches : Bool) (s : State) (r : OpenRecord) (o : RoundOutcome) (c : Option AbortCause) :
    RecoveryStarted latches o c r.openedAt (s.backEntered r o c) (commandFloatWithCheck latches (s.backEntered r o c)) :=
  commandFloatWithCheck_spec (r := { r with outcome := some o, cause := c }) rfl rfl rfl latches

theorem fbToFloat_working {r : OpenRecord} (h : s.rnd.round = .equalising ∨ s.rnd.round = .soak)
    (hr : s.rnd.record = some r) (ho : r.outcome = none) : fbToFloat s =
      commandFloatWithCheck false (State.backEntered { s with rnd.inhibit := true } r .aborted (some .position)) := by
  rw [← enterTransferBack_fixOutcome_eq (s := { s with rnd.inhibit := true }) hr ho]
  unfold fbToFloat
  rcases h with h | h <;> rw [h]

theorem fbToFloat_other (hequalising : s.rnd.round ≠ .equalising) (hsoak : s.rnd.round ≠ .soak)
    (hback : s.rnd.round ≠ .transferBack) : fbToFloat s = s := by
  unfold fbToFloat
  split
  · next h => exact absurd h hequalising
  · next h => exact absurd h hsoak
  · next h => exact absurd h hback
  all_goals rfl

theorem fbToEqualise_prepare {r : OpenRecord} (h : s.rnd.round = .prepare) (hr : s.rnd.record = some r)
    (ho : r.outcome = none) : fbToEqualise s =
      commandFloatWithCheck false
        (State.backEntered { s with rnd.inhibit := true, rnd.chargerWait := none } r .aborted (some .position)) := by
  rw [← enterTransferBack_fixOutcome_eq (s := { s with rnd.inhibit := true, rnd.chargerWait := none }) hr ho]
  unfold fbToEqualise
  rw [h]

theorem fbToEqualise_outside (h : s.rnd.round = .float ∨ s.rnd.round = .due ∨ s.rnd.round = .rest ∨ s.rnd.round = .waterDue) :
    fbToEqualise s =
      State.statusAsked { s with rnd.inhibit := true, rnd.restPeriod := none, rnd.round := .inhibited } := by
  rw [← uncommandedOutsideRound_eq]
  unfold fbToEqualise
  rcases h with h | h | h | h <;> rw [h]

/-- A pending claim is withdrawn before the string becomes INHIBITED (R129, R146). -/
theorem fbToEqualise_claiming {q : Resource} (h : s.rnd.round = claimingState q) :
    fbToEqualise s =
      State.statusAsked { withdraw q s with rnd.inhibit := true, rnd.restPeriod := none, rnd.round := .inhibited } := by
  rw [← uncommandedOutsideRound_eq]
  unfold fbToEqualise
  cases q <;> rw [show s.rnd.round = _ from h] <;> rfl

theorem fbToEqualise_latches (h : s.rnd.round = .watering ∨ s.rnd.round = .inhibited) :
    fbToEqualise s = { s with rnd.inhibit := true } := by
  unfold fbToEqualise
  rcases h with h | h <;> rw [h]

theorem fbToEqualise_expected
    (h : s.rnd.round = .equalising ∨ s.rnd.round = .soak ∨ s.rnd.round = .transferBack ∨ s.rnd.round = .stuck) :
    fbToEqualise s = s := by
  unfold fbToEqualise
  rcases h with h | h | h | h <;> rw [h]

/-- Settles O54, by the position and the round state. -/
theorem uncommandedEdges : Obligations.UncommandedEdges := by
  intro s u d
  constructor
  · rintro he rfl
    refine ⟨_, stabilityTimerExpiry_of_edge he, fun hround r hr ho => ?_,
      fun hequalising hsoak hback => fbToFloat_other (s := s.settled .fb d false) hequalising hsoak hback⟩
    rw [show levelEdge .fb false (s.settled .fb d false) = _ from fbToFloat_working hround hr ho]
    exact recoveryStarted_backEntered _ _ _ _ _
  · rintro he rfl
    refine ⟨_, stabilityTimerExpiry_of_edge he, fun hround r hr ho => ?_,
      fun hround => fbToEqualise_outside (s := s.settled .fb d true) hround, fun q hround => ?_,
      fun hround => fbToEqualise_latches (s := s.settled .fb d true) hround,
      fun hround => fbToEqualise_expected (s := s.settled .fb d true) hround⟩
    · rw [show levelEdge .fb true (s.settled .fb d true) = _ from fbToEqualise_prepare hround hr ho]
      exact recoveryStarted_backEntered _ _ _ _ _
    · have hedge := fbToEqualise_claiming (q := q) (s := s.settled .fb d true) (by cases q <;> exact hround)
      refine ⟨fun hstate => hedge.trans ?_, fun hstate => hedge.trans ?_⟩
      · rw [withdraw_queued (s := s.settled .fb d true) hstate]
      · rw [withdraw_contending (s := s.settled .fb d true) hstate]

/-! ### The charger -/

/-- Settles O55, by the round state. -/
theorem chargerIsWatched : Obligations.ChargerIsWatched := by
  refine fun s => ⟨fun r d hd hr ho => ⟨prepareEnds .aborted (some .charger) (s.reach d),
      by simp only [exec, execChargerWaitExpiry, hd], ?_⟩, fun r d he hround hr ho => ?_,
    fun d he hround => ?_, fun d he hequalising hsoak hout => ?_, fun h => by simp only [exec, execChargerWaitExpiry, h],
    fun h => by simp only [exec, execTransferWindowExpiry, h], fun h => by simp only [exec, execRecoveryCheckExpiry, h],
    fun h => by simp only [exec, execCurrentWaitExpiry, h]⟩
  · exact prepareEnds_spec (s := s.reach d) hr ho _ _
  · exact (stabilityTimerExpiry_of_edge he).trans
      (congrArg _ (chargerLost_working (s := s.settled .crdy d false) hround hr ho))
  · exact (stabilityTimerExpiry_of_edge he).trans
      (congrArg _ (chargerBecomesReady_other (s := s.settled .crdy d true) hround))
  · exact (stabilityTimerExpiry_of_edge he).trans
      (congrArg _ (chargerLost_other (s := s.settled .crdy d false) hequalising hsoak hout))

/-! ### Conditioning -/

theorem exec_rawLevelChange (after : Nat) (i : LevelInput) (high : Bool) (s : State) : exec (.rawLevelChange after i high) s =
    .next
      { s.elapse after with
        fld := s.fld.withLine i
          { s.fld.line i with
            pinHigh := high
            timer := if s.cfg.readEnded && inputEnabled s.cfg.config i && ((s.fld.line i).pinHigh != high) then
              some (s.now + after + 20000) else (s.fld.line i).timer } } := rfl

/-- The enable bits by input, the probe of a group above G disabled (R163, R180). -/
theorem inputEnabled_eq {c : Configuration} {i : LevelInput} {enabled : Bool}
    (h : match i with
      | .fb => enabled = c.fbEnable
      | .crdy => enabled = c.crdyEnable
      | .prb g =>
          (g.val < c.groupCount → enabled = c.probeEnable.getLsbD g.val) ∧ (c.groupCount ≤ g.val → enabled = false)) :
    inputEnabled c i = enabled := by
  cases i with
  | fb => exact h.symm
  | crdy => exact h.symm
  | prb g =>
    obtain ⟨hin, hout⟩ := h
    by_cases hg : g.val < c.groupCount
    · rw [hin hg]
      simp [inputEnabled, groupEnabled, hg]
    · rw [hout (by omega)]
      simp [inputEnabled, groupEnabled, hg]

/-- A level that stood for 20 ms and is the debounced one raises no edge (R181). -/
theorem levelStands_settled {i : LevelInput} (h : (s.fld.line i).active = xor (s.fld.line i).pinHigh (inputInverted s.cfg.config i)) :
    levelStands i s = { s with fld := s.fld.withLine i { s.fld.line i with timer := none } } := by
  have hraw : rawActive s.cfg.config i (s.fld.line i) = (s.fld.line i).active := h.symm
  unfold levelStands
  dsimp only
  rw [hraw, if_pos rfl]

/-- Settles O56, by the input's enable bit and the level it shows. -/
theorem levelsAreConditioned : Obligations.LevelsAreConditioned := by
  rintro s i l rfl
  refine ⟨fun after high enabled henabled => ⟨fun hread hen hchange => ?_, fun hidle => ?_⟩,
    fun h => by simp only [exec, execStabilityTimerExpiry, h], fun d hd h => ?_, fun g d level hi he hquiet => ?_⟩
  · have hin : inputEnabled s.cfg.config i = true := (inputEnabled_eq henabled).trans hen
    rw [exec_rawLevelChange, if_pos (by simp [hread, hin, hchange])]
  · have hin : inputEnabled s.cfg.config i = enabled := inputEnabled_eq henabled
    rw [exec_rawLevelChange, if_neg (by rw [hin]; rcases hidle with h | h | h <;> simp [h])]
  · simp only [exec, execStabilityTimerExpiry, hd]
    exact congrArg _ (levelStands_settled (s := s.reach d) h)
  · subst hi
    rw [stabilityTimerExpiry_of_edge he]
    cases level with
    | false => rfl
    | true => exact congrArg _ (if_neg (hquiet.resolve_left fun h => nomatch h))

end Sys2Proof.Machine
end

section
/-! SUPPORT. The pulse state of FLOW, the timers of the node, and the watering round. -/

namespace Sys2Proof.Machine

variable {s t u : State}

/-! ### The pulse state of FLOW -/

theorem exec_flowEdge (after : Nat) (high : Bool) (s : State) : exec (.flowEdge after high) s =
    .next (changeFlowPin high (s.elapse after)) := rfl

/-- A change of the FLOW pin that the pulse state follows (R183). -/
theorem changeFlowPin_follows {high : Bool} {flow : FlowState} {timer : Option Nat}
    (hread : s.cfg.readEnded = true) (hen : s.cfg.config.flowEnable = true) (hchange : s.fld.flowPinHigh ≠ high)
    (h : flowRawChange (xor high s.cfg.config.flowInvert) s.now s.fld.flow s.fld.flowTimer = (flow, timer)) :
    changeFlowPin high s = { s with fld.flowPinHigh := high, fld.flow := flow, fld.flowTimer := timer } := by
  unfold changeFlowPin
  rw [if_pos (by simp [hread, hen, hchange]), h]

theorem changeFlowPin_idle {high : Bool}
    (h : s.cfg.readEnded = false ∨ s.cfg.config.flowEnable = false ∨ s.fld.flowPinHigh = high) :
    changeFlowPin high s = { s with fld.flowPinHigh := high } := by
  unfold changeFlowPin
  rw [if_neg (by rcases h with h | h | h <;> simp [h])]

theorem exec_flowTimerExpiry {d : Nat} (h : s.fld.flowTimer = some d) :
    exec .flowTimerExpiry s = .next (flowTimerEnds (s.reach d)) := by
  simp only [exec, execFlowTimerExpiry, h]

theorem flowTimerEnds_rearming (h : s.fld.flow = .rearming) :
    flowTimerEnds s = { s with fld.flow := .armed, fld.flowTimer := none } := by
  unfold flowTimerEnds
  dsimp only
  rw [h]

/-- Settles O57, by the state and the edge. -/
theorem flowIsConditioned : Obligations.FlowIsConditioned := by
  refine fun s => ⟨fun after high raw flow timer hraw hidle hfollow => ?_, fun d hd hflow => ?_,
    fun h => by simp only [exec, execFlowTimerExpiry, h]⟩
  · rw [exec_flowEdge]
    by_cases hquiet : s.cfg.readEnded = false ∨ s.cfg.config.flowEnable = false ∨ s.fld.flowPinHigh = high
    · obtain ⟨rfl, rfl⟩ := hidle hquiet
      exact congrArg _ (changeFlowPin_idle (s := s.elapse after) hquiet)
    · obtain ⟨hread, hrest⟩ := not_or.mp hquiet
      obtain ⟨hen, hchange⟩ := not_or.mp hrest
      rw [Bool.not_eq_false] at hread hen
      obtain ⟨harmed, hqualifying, hspent, hrearming, hstands⟩ := hfollow hread hen hchange
      refine congrArg _ (changeFlowPin_follows (s := s.elapse after) hread hen hchange ?_)
      change flowRawChange (xor high s.cfg.config.flowInvert) (s.now + after) s.fld.flow s.fld.flowTimer = (flow, timer)
      rw [← hraw]
      cases hstate : s.fld.flow with
      | armed =>
        cases raw with
        | true =>
          obtain ⟨rfl, rfl⟩ := harmed hstate rfl
          rfl
        | false =>
          obtain ⟨rfl, rfl⟩ := hstands (.inl ⟨.inl hstate, rfl⟩)
          exact congrArg (·, s.fld.flowTimer) hstate.symm
      | qualifying =>
        cases raw with
        | true =>
          obtain ⟨rfl, rfl⟩ := hstands (.inr ⟨.inl hstate, rfl⟩)
          exact congrArg (·, s.fld.flowTimer) hstate.symm
        | false =>
          obtain ⟨rfl, rfl⟩ := hqualifying hstate rfl
          rfl
      | spent =>
        cases raw with
        | true =>
          obtain ⟨rfl, rfl⟩ := hstands (.inr ⟨.inr hstate, rfl⟩)
          exact congrArg (·, s.fld.flowTimer) hstate.symm
        | false =>
          obtain ⟨rfl, rfl⟩ := hspent hstate rfl
          rfl
      | rearming =>
        cases raw with
        | true =>
          obtain ⟨rfl, rfl⟩ := hrearming hstate rfl
          rfl
        | false =>
          obtain ⟨rfl, rfl⟩ := hstands (.inl ⟨.inr hstate, rfl⟩)
          exact congrArg (·, s.fld.flowTimer) hstate.symm
  · rw [exec_flowTimerExpiry hd, flowTimerEnds_rearming (s := s.reach d) hflow]

/-! ### Timers of the node -/

theorem exec_pwmPeriodStart (s : State) : exec .pwmPeriodStart s =
    .next
      { s.reach (nextPwmStart s.fld.pwmStart s.now) with
        fld.pwmStart := nextPwmStart s.fld.pwmStart s.now
        fld.pwmDuty := s.rnd.duty } := rfl

theorem nextPwmStart_next {start now : Nat} (h : now < start + 2048) : nextPwmStart start now = start + 1024 := by
  unfold nextPwmStart pwmPeriodUs
  omega

/-- A period start taken late catches up with the latest one (log entry 19). -/
theorem nextPwmStart_late {start now : Nat} (h : start + 2048 ≤ now) :
    nextPwmStart start now = start + (now - start) / 1024 * 1024 := by
  unfold nextPwmStart pwmPeriodUs
  omega

/-- Settles O51, timer by timer. -/
theorem timersExpire : Obligations.TimersExpire := by
  intro s
  refine ⟨fun d h => ?_, fun h => by simp only [exec, execStatusPeriodExpiry, h], fun d h => ?_,
    fun h => by simp only [exec, execJoiningTimerExpiry, h], fun r d h => by simp only [exec, execBackOffExpiry, h],
    fun r h => by simp only [exec, execBackOffExpiry, h], fun d h => by simp only [exec, execRecoveryAttempt, h],
    fun h => by simp only [exec, execRecoveryAttempt, h], fun d h hrest => ?_,
    fun h => by simp only [exec, execRestPeriodExpiry, h], fun d h => by simp only [exec, execEarlyFlowLimitExpiry, h],
    fun h => by simp only [exec, execEarlyFlowLimitExpiry, h], fun d h => by simp only [exec, execDryLatchExpiry, h],
    fun h => by simp only [exec, execDryLatchExpiry, h], fun h => ?_, fun h => ?_⟩
  · simp only [exec, execStatusPeriodExpiry, h]
    exact congrArg _ (requestStatus_statusAsked _)
  · simp only [exec, execJoiningTimerExpiry, h]
  · simp only [exec, execRestPeriodExpiry, h, hrest, if_true]
  · rw [exec_pwmPeriodStart, nextPwmStart_next h]
  · refine ⟨(s.now - s.fld.pwmStart) / 1024, by omega, by omega, ?_⟩
    rw [exec_pwmPeriodStart, nextPwmStart_late h]

end Sys2Proof.Machine
end

section
/-! SUPPORT. The watering round: flow pulses, dose pulses and the ends of a round. -/

namespace Sys2Proof.Machine

variable {s t u : State}

/-! ### Flow in a dose pulse -/

/-- The closed period goes on while it has not begun or one of its timers runs (R169). -/
theorem checkClosedPeriod_goesOn (h : s.wat.closedPeriod = false ∨ s.wat.offTime.isSome = true ∨
    s.wat.drainGrace.isSome = true ∨ s.wat.flowWindow.isSome = true) : checkClosedPeriod s = s := by
  refine if_neg fun hall => ?_
  simp only [Bool.and_eq_true, Option.isNone_iff_eq_none] at hall
  obtain ⟨⟨⟨hclosed, hoff⟩, hgrace⟩, hwindow⟩ := hall
  rw [hclosed, hoff, hgrace, hwindow] at h
  simp at h

/-- The state after a flow pulse of the head group's dose is judged: the first one ends the flow window (R171). -/
def State.flowJudged (s : State) : State :=
  { s with
    wat.flowWindow := none
    wat.noFlow := if s.wat.flowWindow.isSome then 0 else s.wat.noFlow }

theorem flowJudged_eq (s : State) : s.flowJudged =
    if s.wat.flowWindow.isSome then { s with wat.flowWindow := none, wat.noFlow := 0 } else s := by
  unfold State.flowJudged
  by_cases h : s.wat.flowWindow.isSome = true
  · rw [if_pos h, if_pos h]
  · rw [if_neg h, if_neg h, ← Option.not_isSome_iff_eq_none.mp h]

theorem flowTooEarly_iff : flowTooEarly s = true ↔
    s.wat.flowWindow.isSome = true ∧ ∃ l, s.wat.earlyLimit = some l ∧ s.now < l := by
  unfold flowTooEarly
  cases h : s.wat.earlyLimit <;> simp

theorem flowInDose_early {g : Fin 8} (h : flowTooEarly (countFlow g s) = true) :
    flowInDose g s = wateringConflict (countFlow g s) := if_pos h

theorem flowInDose_judged {g : Fin 8} (h : ¬ flowTooEarly (countFlow g s) = true) :
    flowInDose g s = checkClosedPeriod (closeIfReached g (countFlow g s).flowJudged) := by
  rw [flowJudged_eq]
  exact if_neg h

/-- A flow pulse that stays in its dose closes the valve at the limit of the dosed volume and changes nothing else; an open
valve or a drain grace keeps the closed period from ending (R169, R172). -/
theorem checkClosedPeriod_judged {g : Fin 8} {reached : Prop}
    (hreached : reached ↔ (s.group g).cap ≤ (s.group g).dosed * 1000 ∨
      (ProbeDisabled s g ∧ (s.group g).target ≤ (s.group g).dosed * 1000))
    (hrun : s.wat.valve.isSome = true ∨ s.wat.drainGrace.isSome = true)
    (hclosed : s.wat.closedPeriod = true → s.wat.valve = none) :
    (s.wat.valve.isSome = true → reached → checkClosedPeriod (closeIfReached g s) = s.pulseClosed) ∧
    (s.wat.valve = none ∨ ¬ reached → checkClosedPeriod (closeIfReached g s) = s) := by
  classical
  rw [closeIfReached_eq g reached hreached]
  refine ⟨fun hvalve hr => ?_, fun hno => ?_⟩
  · rw [if_pos ⟨hvalve, hr⟩]
    exact checkClosedPeriod_goesOn (.inr (.inl rfl))
  · rw [if_neg fun ⟨hvalve, hr⟩ => hno.elim (fun h => by rw [h] at hvalve; cases hvalve) (· hr)]
    refine checkClosedPeriod_goesOn (hrun.elim (fun hvalve => .inl ?_) fun hgrace => .inr (.inr (.inl hgrace)))
    refine Bool.eq_false_iff.mpr fun hc => ?_
    rw [hclosed hc] at hvalve
    cases hvalve

theorem flowPulse_inDose {g : Fin 8} {rest : List (Fin 8)} (hrun : s.wat.valve.isSome = true ∨ s.wat.drainGrace.isSome = true)
    (hround : s.rnd.round = .watering) (hplan : s.wat.plan = g :: rest) : flowPulse s = flowInDose g s := by
  refine (if_pos hrun).trans ((if_pos hround).trans ?_)
  rw [hplan]

theorem flowPulse_afterRound (hrun : s.wat.valve.isSome = true ∨ s.wat.drainGrace.isSome = true)
    (hround : s.rnd.round ≠ .watering) : flowPulse s = s := (if_pos hrun).trans (if_neg hround)

theorem flowPulse_outside (hvalve : s.wat.valve = none) (hgrace : s.wat.drainGrace = none) :
    flowPulse s = flowOutsideDose s := if_neg (by simp [hvalve, hgrace])

/-- Flow outside a dose, by the WATER machine (R174). -/
theorem flowOutsideDose_held (hstate : s.clm.water.state = .held) (hround : s.rnd.round = .watering) :
    flowOutsideDose s = wateringConflict s := by
  unfold flowOutsideDose
  rw [hstate]
  exact if_pos hround

theorem flowOutsideDose_unclaimed (hstate : s.clm.water.state = .none) : flowOutsideDose s =
    if s.cfg.mode = .starting ∨ ¬ ∀ p ∈ s.ptb, p.waterClaim = none then s else { s with wat.unexplained := true } := by
  unfold flowOutsideDose
  rw [hstate]
  dsimp only
  exact if_congr (or_congr_right ((Bool.not_eq_false _).symm.to_iff.trans (not_congr waterOccupied_false_iff))) rfl rfl

theorem flowOutsideDose_pending (hnone : s.clm.water.state ≠ .none) (hheld : s.clm.water.state ≠ .held) :
    flowOutsideDose s = s := by
  unfold flowOutsideDose
  split
  · next h => exact absurd h hheld
  · next h => exact absurd h hnone
  all_goals rfl

theorem wateringConflict_spec {r : OpenRecord} (hr : s.rnd.record = some r) (ho : r.outcome = none) :
    WateringEnded .conflict none r.openedAt { s with rnd.inhibit := true } (wateringConflict s) :=
  wateringEnds_spec (s := { s with rnd.inhibit := true }) hr ho

theorem flowTimerEnds_qualifying (h : s.fld.flow = .qualifying) :
    flowTimerEnds s = flowPulse { s with fld.flow := .spent, fld.flowTimer := none } := by
  unfold flowTimerEnds
  dsimp only
  rw [h]

/-- Settles O58, by where the pulse falls. -/
theorem flowPulsesAreJudged : Obligations.FlowPulsesAreJudged := by
  intro s u d hd hflow hu
  have hexec : exec .flowTimerExpiry s = .next (flowPulse u) := by
    rw [exec_flowTimerExpiry hd, flowTimerEnds_qualifying (s := s.reach d) hflow, hu]
  have hwat : u.wat = s.wat := by rw [hu]; rfl
  have hrnd : u.rnd = s.rnd := by rw [hu]; rfl
  have hclm : u.clm = s.clm := by rw [hu]; rfl
  have hcfg : u.cfg = s.cfg := by rw [hu]; rfl
  have hptb : u.ptb = s.ptb := by rw [hu]; rfl
  have hgroup (g : Fin 8) : u.group g = s.group g := by rw [hu]; rfl
  have hdisabled (g : Fin 8) : ProbeDisabled u g ↔ ProbeDisabled s g := by rw [hu]; rfl
  simp only [← hwat, ← hrnd, ← hclm, ← hcfg, ← hptb, ← hgroup, ← hdisabled]
  refine ⟨flowPulse u, hexec, fun hrun => ⟨flowPulse_afterRound hrun, fun hround hclosed r g rest v w early reached hr ho
    hplan hv hw hearly hreached => ?_⟩, fun hvalve hgrace => ⟨fun hstate hround r hr ho => ?_, fun hstate hmode hfree => ?_,
    fun hstate hheld => ?_, fun hnone hheld => ?_⟩⟩
  · have hcounted : countFlow g u = v := hv.symm
    have htooEarly : flowTooEarly v = true ↔ early := by
      rw [flowTooEarly_iff, hearly, hv]
      rfl
    have hjudged : v.flowJudged = w := by
      rw [hw, hv]
      rfl
    rw [flowPulse_inDose hrun hround hplan]
    have hstays (hno : ¬ early) : flowInDose g u = checkClosedPeriod (closeIfReached g w) := by
      rw [flowInDose_judged (by rwa [hcounted, htooEarly]), hcounted, hjudged]
    obtain ⟨hcloses, hgoes⟩ := checkClosedPeriod_judged (s := w) (g := g) (reached := reached)
      (by rw [hreached, hw, hv]; rfl) (by rw [hw, hv]; exact hrun) (by rw [hw, hv]; exact hclosed)
    refine ⟨fun h => ?_, fun hno hvalve hr => (hstays hno).trans (hcloses (by rw [hw, hv]; exact hvalve) hr),
      fun hno hstop => (hstays hno).trans (hgoes (by rw [hw, hv]; exact hstop))⟩
    rw [flowInDose_early (by rwa [hcounted, htooEarly]), hcounted]
    exact wateringConflict_spec (by rw [hv]; exact hr) ho
  · rw [flowPulse_outside hvalve hgrace, flowOutsideDose_held hstate hround]
    exact wateringConflict_spec hr ho
  · rw [flowPulse_outside hvalve hgrace, flowOutsideDose_unclaimed hstate]
    exact if_neg (not_or.mpr ⟨hmode, not_not.mpr hfree⟩)
  · rw [flowPulse_outside hvalve hgrace, flowOutsideDose_unclaimed hstate]
    exact if_pos hheld
  · rw [flowPulse_outside hvalve hgrace, flowOutsideDose_pending hnone hheld]

/-! ### Dose pulses -/

theorem closePulse_eq (s : State) : closePulse s = s.pulseClosed := rfl

/-- Settles O59, timer by timer. -/
theorem dosePulsesRun : Obligations.DosePulsesRun := by
  intro s
  refine ⟨fun d h => ?_, fun h => by simp only [exec, execOpenPeriodExpiry, h], fun g d he hvalve => ?_,
    fun d r h hr ho => ⟨checkClosedPeriod { s.reach d with wat.drainGrace := none },
      by simp only [exec, execDrainGraceExpiry, h], ?_⟩, fun d h hclosed => ?_,
    fun h => by simp only [exec, execDrainGraceExpiry, h],
    fun d r h hr ho => ⟨checkClosedPeriod { s.reach d with wat.offTime := none },
      by simp only [exec, execOffTimeExpiry, h], ?_⟩, fun h => by simp only [exec, execOffTimeExpiry, h]⟩
  · simp only [exec, execOpenPeriodExpiry, h, closePulse_eq]
  · exact (stabilityTimerExpiry_of_edge he).trans (congrArg _ (if_pos hvalve))
  · exact checkClosedPeriod_spec (s := { s.reach d with wat.drainGrace := none }) hr ho
  · simp only [exec, execDrainGraceExpiry, h]
    exact congrArg _ (checkClosedPeriod_goesOn (.inl hclosed))
  · exact checkClosedPeriod_spec (s := { s.reach d with wat.offTime := none }) hr ho

/-- A flow window that passes without flow (R171, R175). -/
theorem flowWindowPasses_short (h : s.wat.closedEarly = true) :
    flowWindowPasses s = checkClosedPeriod { s with wat.flowWindow := none } := if_pos h

theorem flowWindowPasses_noFlow (h : s.wat.closedEarly = false) : flowWindowPasses s =
    if 1 ≤ s.wat.noFlow then
      wateringEnds .dry none
        { s with
          wat.flowWindow := none
          wat.noFlow := s.wat.noFlow + 1
          wat.dry := true
          wat.dryTimer := some (s.now + 86400000000) }
    else checkClosedPeriod { s with wat.flowWindow := none, wat.noFlow := s.wat.noFlow + 1 } :=
  (if_neg (Bool.eq_false_iff.mp h)).trans (if_congr (Nat.add_le_add_iff_right (n := 1)) rfl rfl)

/-- Settles O60, by what the pulse showed. -/
theorem dryAndLimitEndRounds : Obligations.DryAndLimitEndRounds := by
  intro s
  refine ⟨fun d r u h hr ho hu => ⟨flowWindowPasses (s.reach d), by simp only [exec, execFlowWindowExpiry, h],
      fun hearly => ?_, fun hearly hnone => ?_, fun hearly hsecond => ?_⟩,
    fun h => by simp only [exec, execFlowWindowExpiry, h],
    fun d r h hr ho => ⟨wateringEnds .timedOut none (s.reach d), by simp only [exec, execRoundLimitExpiry, h],
      wateringEnds_spec (s := s.reach d) hr ho⟩, fun h => by simp only [exec, execRoundLimitExpiry, h]⟩
  · rw [flowWindowPasses_short (s := s.reach d) hearly, hu]
    exact checkClosedPeriod_spec (s := { s.reach d with wat.flowWindow := none }) hr ho
  · have hnoFlow : flowWindowPasses (s.reach d) = checkClosedPeriod { u with wat.noFlow := 1 } := by
      rw [flowWindowPasses_noFlow (s := s.reach d) hearly, if_neg (by rw [show (s.reach d).wat.noFlow = 0 from hnone]; omega),
        hu, show (s.reach d).wat.noFlow = 0 from hnone]
    rw [hnoFlow, hu]
    exact checkClosedPeriod_spec (s := { s.reach d with wat.flowWindow := none, wat.noFlow := 1 }) hr ho
  · rw [flowWindowPasses_noFlow (s := s.reach d) hearly, if_pos (show 1 ≤ (s.reach d).wat.noFlow from hsecond), hu]
    exact wateringEnds_spec hr ho

end Sys2Proof.Machine
end

section
/-! SUPPORT. The figures of the claims and the rounds, and every operation of CLM and RND that keeps them in range. -/

namespace Sys2Proof.Machine

variable {s t u : State} {r : Resource}

/-! ### The figures -/

/-- A group record in its ranges (R164, R167, R177). -/
structure GroupRecord.InRange (r : GroupRecord) : Prop where
  carried : r.carried ≤ 999999
  target : r.target ≤ 24999975
  cap : r.cap ≤ 37499962
  dosed : r.dosed ≤ 65535

/-- What of the ranges CLM, RND and the account hold between two measurements. -/
structure Figures (s : State) : Prop where
  config : ConfigInRange s.cfg.config
  account : s.acc.InRange s.cfg.config
  eq : s.clm.eq.InRange
  water : s.clm.water.InRange
  nextTag : 1 ≤ s.clm.nextTag ∧ s.clm.nextTag ≤ 255
  history : s.clm.history.length ≤ 60 ∧ s.clm.lowRun ≤ 600
  duty : s.rnd.duty ≤ 1023 ∧ s.fld.pwmDuty ≤ 1023
  timers : s.rnd.elapsed ≤ 86400 ∧ s.rnd.bandTimer ≤ 86400 ∧ s.rnd.restTimer ≤ restSeconds s.cfg.config
  shares : s.rnd.applied ≤ 5000 ∧ s.rnd.pending ≤ 5000
  groups : ∀ r ∈ s.wat.groups, r.InRange
  eight : s.wat.groups.length = 8
  noFlow : s.wat.noFlow ≤ 2 ∧ (s.rnd.round = .watering → s.wat.noFlow ≤ 1)
  records : ∀ l, s.rnd.lastEq = some l ∨ s.rnd.lastWater = some l → l.minutes ≤ 65535

theorem Figures.ite {c : Prop} [Decidable c] (h : c → Figures s) (k : ¬ c → Figures t) : Figures (if c then s else t) := by
  split
  · next hc => exact h hc
  · next hc => exact k hc

theorem Figures.requestStatus (h : Figures s) : Figures (requestStatus s) := by
  rw [requestStatus_eq]
  exact { h with }

/-! ### Claims -/

/-- A machine with the claim of one in range, given out no further than it was. -/
theorem ClaimMachine.InRange.of_claim {m m' : ClaimMachine} (h : m.InRange) (htag : m'.tag = m.tag)
    (hsnapshot : m'.snapshot = m.snapshot) (hshare : m'.share ≤ m.share) (hgiven : m'.state ≠ .none → m.state ≠ .none) :
    m'.InRange where
  tag := htag.trans_le h.tag
  given hstate := htag ▸ h.given (hgiven hstate)
  snapshot := hsnapshot.trans_le h.snapshot
  share := hshare.trans h.share

theorem Figures.machine (h : Figures s) (r : Resource) : (s.clm.machine r).InRange := by
  cases r
  · exact h.eq
  · exact h.water

theorem Figures.withMachine (h : Figures s) {m : ClaimMachine} (hm : m.InRange) (r : Resource) : Figures (s.withMachine r m) := by
  cases r
  · exact { h with eq := hm }
  · exact { h with water := hm }

theorem Figures.startBackOff (h : Figures s) (r : Resource) : Figures (startBackOff r s) := by
  cases r <;> exact { h with }

theorem Figures.withdraw (h : Figures s) (r : Resource) : Figures (withdraw r s) := by
  unfold Machine.withdraw
  dsimp only
  split
  · refine .withMachine h ?_ r
    exact (h.machine r).of_claim rfl rfl le_rfl fun hn => absurd rfl hn
  · next hstate =>
    refine .startBackOff (.withMachine h ?_ r) r
    exact (h.machine r).of_claim rfl rfl le_rfl fun _ => by rw [hstate]; exact nofun
  all_goals exact h

theorem Figures.releaseClaim (h : Figures s) (r : Resource) (o : RoundOutcome) : Figures (releaseClaim r o s) := by
  unfold Machine.releaseClaim
  dsimp only
  split
  · next hstate =>
    refine .withMachine h ?_ r
    exact (h.machine r).of_claim rfl rfl le_rfl fun _ => by rw [hstate]; exact nofun
  all_goals exact h

/-- A claim made takes the next tag (R114, R121, R122). -/
theorem Figures.makeClaim (h : Figures s) {snapshot share : Nat} (hsnapshot : snapshot ≤ 1000) (hshare : share ≤ 5000)
    (r : Resource) : Figures (makeClaim r snapshot share s) := by
  have htag : 1 ≤ tagAfter s.clm.nextTag ∧ tagAfter s.clm.nextTag ≤ 255 := by
    have hnext := h.nextTag
    unfold tagAfter
    split_ifs <;> omega
  have hmade : (ClaimMachine.mk .queued s.clm.nextTag snapshot share .done none false).InRange :=
    ⟨h.nextTag.2, fun _ => h.nextTag.1, hsnapshot, hshare⟩
  cases r
  · exact { h with eq := hmade, nextTag := htag }
  · exact { h with water := hmade, nextTag := htag }

/-- A completed Claim opens the window of the claim, or names the claim of its tag in a Release (R118). -/
theorem Figures.claimCompleted (h : Figures s) (r : Resource) {n : Nat} (hn : 1 ≤ n ∧ n ≤ 255) :
    Figures (claimCompleted r n s) := by
  unfold Machine.claimCompleted
  dsimp only
  refine .ite (fun hq => ?_) fun _ => .ite (fun _ => ?_) fun _ => h
  · refine .withMachine h ?_ r
    exact (h.machine r).of_claim rfl rfl le_rfl fun _ => by rw [hq.1]; exact nofun
  · obtain ⟨-, -, hsnapshot, hshare⟩ := h.machine r
    refine .startBackOff (.withMachine h ?_ r) r
    exact ⟨hn.2, fun _ => hn.1, hsnapshot, hshare⟩

theorem Figures.releaseCompleted (h : Figures s) (r : Resource) (n : Nat) : Figures (releaseCompleted r n s) := by
  refine .ite (fun _ => .withMachine h ?_ r) fun _ => h
  exact (h.machine r).of_claim rfl rfl le_rfl fun hn => absurd rfl hn

theorem Figures.dropClaims (h : Figures s) : Figures (dropClaims s) :=
  { h with
    eq := h.eq.of_claim rfl rfl le_rfl fun hn => absurd rfl hn
    water := h.water.of_claim rfl rfl le_rfl fun hn => absurd rfl hn
    history := ⟨Nat.zero_le _, Nat.zero_le _⟩ }

/-- The share reduction shortens the history to 60 and lowers the share (R136). -/
theorem Figures.reduceShare (h : Figures s) (c : Channel) : Figures (reduceShare c s) := by
  have hhistory : (appendCurrent s.clm.history c.value).length ≤ 60 := by
    have hlength := h.history.1
    simp only [appendCurrent, List.length_drop, List.length_append, List.length_singleton]
    omega
  have hrun : stepLowRun s.rnd.round c.value s.rnd.applied s.clm.lowRun ≤ 600 := by
    unfold stepLowRun
    split_ifs <;> omega
  unfold Machine.reduceShare
  refine .ite (fun _ => .ite (fun hr => .requestStatus ?_) fun _ => { h with history := ⟨hhistory, hrun⟩ }) fun _ => h
  obtain ⟨-, -, -, hlower⟩ := hr
  have hshare := hlower.le.trans h.eq.share
  exact { h with
    history := ⟨hhistory, hrun⟩
    eq := ⟨h.eq.tag, h.eq.given, h.eq.snapshot, hshare⟩
    shares := ⟨h.shares.1, hshare⟩ }

/-! ### The equalising round -/

theorem Figures.setDuty (h : Figures s) {d : Nat} (hd : d ≤ 1023) : Figures (setDuty s d) :=
  { h with
    duty := ⟨hd, by
      show (if d = 0 then 0 else s.fld.pwmDuty) ≤ 1023
      have hpwm := h.duty.2
      split_ifs <;> omega⟩ }

theorem Figures.fixOutcome (h : Figures s) (o : RoundOutcome) (c : Option AbortCause) : Figures (fixOutcome o c s) := { h with }

theorem Figures.enterInhibited (h : Figures s) : Figures (enterInhibited s) :=
  Figures.requestStatus (s := { s with rnd.round := .inhibited }) { h with noFlow := ⟨h.noFlow.1, nofun⟩ }

/-- A record closed lasts at most 65535 minutes (R141). -/
theorem closedRecord_minutes {record : Option OpenRecord} {now : Nat} {last : Option LastRecord}
    (h : ∀ l, last = some l → l.minutes ≤ 65535) {l : LastRecord}
    (hl : (record.map (closeRecord now)).or last = some l) : l.minutes ≤ 65535 := by
  cases record with
  | none => exact h l hl
  | some o =>
    obtain rfl : closeRecord now o = l := Option.some.inj hl
    exact Nat.min_le_left _ _

theorem Acc.InRange.equaliseEnd {c : Configuration} {a : Acc} (h : a.InRange c) (o : RoundOutcome) :
    (a.equaliseEnd o).InRange c := by
  unfold Acc.equaliseEnd
  dsimp only
  split
  · exact { h with hours := Nat.zero_le _, discharged := Nat.zero_le _ }
  · exact { h with }

theorem Acc.InRange.wateringEnd {c : Configuration} {a : Acc} (h : a.InRange c) : a.wateringEnd.InRange c :=
  { h with gassing := Nat.zero_le _, deficit := Nat.zero_le _, urgency := Nat.zero_le _ }

theorem Figures.equaliseEnd (h : Figures s) : Figures (equaliseEnd s) := by
  have hclosed : Figures
      { s with
        rnd.lastEq := (s.rnd.record.map (closeRecord s.now)).or s.rnd.lastEq
        rnd.record := none
        acc := s.acc.equaliseEnd s.roundOutcome } :=
    { h with
      account := h.account.equaliseEnd _
      records := fun l hl => hl.elim (closedRecord_minutes fun l hl => h.records l (.inl hl)) fun hl => h.records l (.inr hl) }
  have hreleased := hclosed.releaseClaim .eq s.roundOutcome
  have hoff : Figures { Machine.releaseClaim .eq s.roundOutcome _ with
      rnd.demand := false, rnd.applied := 0, rnd.pendingValid := false } :=
    { hreleased with shares := ⟨Nat.zero_le _, hreleased.shares.2⟩ }
  unfold Machine.equaliseEnd
  exact .ite (fun _ => hoff.enterInhibited) fun _ => .ite (fun _ => { hoff with noFlow := ⟨hoff.noFlow.1, nofun⟩ }) fun _ =>
    { hoff with noFlow := ⟨hoff.noFlow.1, nofun⟩ }

theorem Figures.enterStuck (h : Figures s) : Figures (enterStuck s) := by
  rw [enterStuck_eq]
  refine { h with eq := ?_, noFlow := ⟨h.noFlow.1, nofun⟩ }
  show (if s.clm.eq.state = .held then { s.clm.eq with share := 0 } else s.clm.eq).InRange
  split
  · exact h.eq.of_claim rfl rfl (Nat.zero_le _) id
  · exact h.eq

theorem Figures.commandFloatWithCheck (h : Figures s) (l : Bool) : Figures (commandFloatWithCheck l s) :=
  .ite (fun _ => { h with }) fun _ => Figures.equaliseEnd { h with }

theorem Figures.commandFloatWithWindow (h : Figures s) : Figures (commandFloatWithWindow s) :=
  .ite (fun _ => { h with }) fun _ => Figures.enterStuck { h with }

theorem Figures.enterTransferBack (h : Figures s) : Figures (enterTransferBack s) := by
  have hduty := h.setDuty (Nat.zero_le _)
  exact { hduty with shares := ⟨Nat.zero_le _, hduty.shares.2⟩, noFlow := ⟨hduty.noFlow.1, nofun⟩ }

theorem Figures.goBack (h : Figures s) (o : RoundOutcome) (c : Option AbortCause) : Figures (goBack o c s) :=
  { (h.fixOutcome o c).enterTransferBack with }

theorem Figures.moveOutFails (h : Figures s) : Figures (moveOutFails s) := by
  have hcleared : Figures { s with rnd.transferFrom := none, rnd.deferred := none } := { h with }
  exact (hcleared.fixOutcome _ _).enterTransferBack.commandFloatWithCheck true

theorem Figures.moveOutSucceeds (h : Figures s) : Figures (moveOutSucceeds s) := by
  have hcleared : Figures { s with rnd.transferFrom := none, rnd.deferred := none } := { h with }
  unfold Machine.moveOutSucceeds
  dsimp only
  split
  · refine .setDuty ?_ (Nat.zero_le _)
    exact { h with noFlow := ⟨h.noFlow.1, nofun⟩, timers := ⟨Nat.zero_le _, Nat.zero_le _, h.timers.2.2⟩ }
  all_goals exact hcleared.goBack _ _

theorem Figures.enterTransferOut (h : Figures s) : Figures (enterTransferOut s) := by
  have hout : Figures
      { s with rnd.round := .transferOut, rnd.chargerWait := none, rnd.relay := .equalise, rnd.deferred := none } :=
    { h with noFlow := ⟨h.noFlow.1, nofun⟩ }
  exact .ite (fun _ => hout.moveOutFails) fun _ => { hout with }

theorem Figures.enterPrepare (h : Figures s) {share : Nat} (hshare : share ≤ 5000) : Figures (enterPrepare share s) := by
  have hopen : Figures
      { s with
        rnd.round := .prepare
        rnd.record := some { kind := .equalise, outcome := none, cause := none, openedAt := s.now }
        rnd.demand := true
        rnd.chargerWait := some (s.now + chargerWaitUs)
        rnd.pending := share
        rnd.pendingValid := true } :=
    { h with noFlow := ⟨h.noFlow.1, nofun⟩, shares := ⟨h.shares.1, hshare⟩ }
  exact .ite (fun _ => hopen.enterTransferOut) fun _ => hopen

theorem Figures.prepareEnds (h : Figures s) (o : RoundOutcome) (c : Option AbortCause) : Figures (prepareEnds o c s) :=
  Figures.equaliseEnd { h with }

theorem Figures.uncommanded (h : Figures s) : Figures (uncommandedOutsideRound s) := Figures.enterInhibited { h with }

theorem Figures.fbToEqualise (h : Figures s) : Figures (fbToEqualise s) := by
  have hlatched : Figures { s with rnd.inhibit := true, rnd.chargerWait := none } := { h with }
  unfold Machine.fbToEqualise
  split
  · split
    · exact .ite (fun _ => h.moveOutFails) fun _ => h.moveOutSucceeds
    · exact h
  · exact (hlatched.fixOutcome _ _).enterTransferBack.commandFloatWithCheck false
  case h_3 | h_4 | h_5 | h_6 => exact h.uncommanded
  case h_7 | h_8 => exact (h.withdraw _).uncommanded
  case h_9 | h_10 => exact { h with }
  all_goals exact h

theorem Figures.fbToFloat (h : Figures s) : Figures (fbToFloat s) := by
  have hlatched : Figures { s with rnd.inhibit := true } := { h with }
  unfold Machine.fbToFloat
  split
  case h_1 | h_2 => exact (hlatched.fixOutcome _ _).enterTransferBack.commandFloatWithCheck false
  case h_3 =>
    split
    · exact .ite (fun _ => h.enterStuck) fun _ => Figures.equaliseEnd { h with }
    · exact Figures.equaliseEnd { h with }
    · exact .ite (fun _ => hlatched.commandFloatWithCheck false) fun _ => h
  all_goals exact h

theorem Figures.chargerLost (h : Figures s) : Figures (chargerLost s) := by
  unfold Machine.chargerLost
  split
  case h_1 | h_2 => exact h.goBack _ _
  case h_3 => exact { h with }
  all_goals exact h

theorem Figures.transferLate (h : Figures s) : Figures (transferLate s) := by
  unfold Machine.transferLate
  split
  case h_1 => exact h.moveOutFails
  case h_2 => exact h.enterStuck
  all_goals exact h

/-! ### The watering round -/

theorem Figures.group (h : Figures s) (g : Fin 8) : (s.group g).InRange := by
  have hg : g.val < s.wat.groups.length := h.eight.symm ▸ g.isLt
  rw [State.group, List.getD_eq_getElem _ _ hg]
  exact h.groups _ (List.getElem_mem hg)

theorem Figures.withGroup (h : Figures s) {r : GroupRecord} (hr : r.InRange) (g : Fin 8) : Figures (s.withGroup g r) :=
  { h with
    groups := fun x hx => (List.mem_or_eq_of_mem_set hx).elim (h.groups x) fun hx => hx ▸ hr
    eight := (List.length_set ..).trans h.eight }

theorem GroupRecord.InRange.afterRound {r : GroupRecord} (h : r.InRange) (inPlan : Bool) : (groupAfterRound inPlan r).InRange := by
  have hcarried : carriedAfter inPlan r ≤ 999999 := by
    unfold carriedAfter
    split_ifs
    · exact Nat.min_le_left _ _
    · split <;> omega
  exact { h with carried := hcarried }

theorem inRange_mapIdx {f : Nat → GroupRecord → GroupRecord} {l : List GroupRecord} (h : ∀ r ∈ l, r.InRange)
    (hf : ∀ i r, r.InRange → (f i r).InRange) : ∀ r ∈ l.mapIdx f, r.InRange := fun r hr => by
  obtain ⟨i, hi, rfl⟩ := List.mem_mapIdx.mp hr
  exact hf i _ (h _ (List.getElem_mem hi))

theorem Figures.atRest (h : Figures s) : Figures { s with rnd.round := .float } := { h with noFlow := ⟨h.noFlow.1, nofun⟩ }

/-- A release writes the machine alone, in whatever round state. -/
theorem releaseClaim_inRound (r : Resource) (o : RoundOutcome) (x : RoundState) (s : State) :
    { releaseClaim r o s with rnd.round := x } = releaseClaim r o { s with rnd.round := x } := by
  unfold releaseClaim
  cases hstate : (s.clm.machine r).state <;> simp [hstate]
  rfl

/-- A watering round end; the no-flow count that brings it counts for no round that goes on (R171, R176, R177). -/
theorem Figures.wateringEnds (h : Figures { s with rnd.round := .float }) (o : RoundOutcome) (c : Option AbortCause) :
    Figures (wateringEnds o c s) := by
  have hclose : Figures { closeValveAtEnd (Machine.fixOutcome o c s) with rnd.round := .float } := by
    unfold closeValveAtEnd
    split
    · exact { h with }
    · exact { h with }
  unfold Machine.wateringEnds
  dsimp only
  generalize closeValveAtEnd (Machine.fixOutcome o c s) = v at hclose
  have hclosed (x : RoundState) (hx : x ≠ .watering) : Figures
      { v with
        wat.groups := groupsAfterRound v.cfg.config.groupCount v.wat.plan v.wat.groups
        wat.plan := []
        wat.openPeriod := none
        wat.earlyLimit := none
        wat.flowWindow := none
        wat.offTime := none
        wat.closedPeriod := false
        wat.roundLimit := none
        rnd.lastWater := (v.rnd.record.map (closeRecord v.now)).or v.rnd.lastWater
        rnd.record := none
        rnd.round := x
        acc := v.acc.wateringEnd } :=
    { hclose with
      account := hclose.account.wateringEnd
      groups := inRange_mapIdx hclose.groups fun i r hr => by
        split
        · exact hr.afterRound _
        · exact hr
      eight := List.length_mapIdx.trans hclose.eight
      noFlow := ⟨hclose.noFlow.1, fun hw => absurd hw hx⟩
      records := fun l hl =>
        hl.elim (fun hl => hclose.records l (.inl hl)) (closedRecord_minutes fun l hl => hclose.records l (.inr hl)) }
  refine .ite (fun _ => .requestStatus ?_) fun _ => ?_
  · rw [releaseClaim_inRound]
    exact (hclosed .inhibited nofun).releaseClaim _ _
  · rw [releaseClaim_inRound]
    exact (hclosed .float nofun).releaseClaim _ _

theorem Figures.wateringConflict (h : Figures s) : Figures (wateringConflict s) :=
  Figures.wateringEnds (s := { s with rnd.inhibit := true }) { h.atRest with } _ _

theorem Figures.startGroups (l : List (Fin 8)) : ∀ {s : State}, Figures s → Figures (startGroups l s) := by
  induction l with
  | nil => exact fun {s} h => Figures.wateringEnds (s := { s with wat.plan := [] }) { h.atRest with } _ _
  | cons g rest ih =>
    refine fun {s} h => .ite (fun _ => ih (h.withGroup ?_ g)) fun _ => { h with }
    exact { h.group g with }

/-- The target of a group counts at most 24 cells (R167). -/
theorem planGroup_inRange {deficit cells : Nat} {r : GroupRecord} (h : r.InRange) (hdeficit : deficit ≤ 999999)
    (hcells : cells ≤ 24) : (planGroup deficit cells r).InRange := by
  have htarget : cells * deficit + r.carried ≤ 24999975 := by
    have hproduct := Nat.mul_le_mul hcells hdeficit
    have hcarried := h.carried
    omega
  have hcap : (cells * deficit + r.carried) * 3 / 2 ≤ 37499962 := by omega
  exact ⟨h.carried, htarget, hcap, Nat.zero_le _⟩

theorem cells_getD_le {c : Configuration} (h : ConfigInRange c) (i : Nat) : c.cells.getD i 0 ≤ 24 := by
  obtain ⟨-, hrange, -⟩ := h.cells
  by_cases hi : i < c.cells.length
  · rw [List.getD_eq_getElem _ _ hi]
    exact (hrange _ (List.getElem_mem hi)).2
  · rw [List.getD_eq_default _ _ (by omega)]
    exact Nat.zero_le _

theorem Figures.enterWatering (h : Figures s) : Figures (enterWatering s) := by
  refine .startGroups _ ?_
  exact { h with
    groups := inRange_mapIdx h.groups fun i r hr => by
      split
      · exact planGroup_inRange hr h.account.deficit (cells_getD_le h.config i)
      · exact hr
    eight := List.length_mapIdx.trans h.eight
    noFlow := ⟨Nat.zero_le _, fun _ => Nat.zero_le _⟩ }

theorem Figures.checkClosedPeriod (h : Figures s) : Figures (checkClosedPeriod s) := by
  refine .ite (fun _ => ?_) fun _ => h
  unfold closedPeriodEnds
  split
  · exact { h with }
  · next g rest _ =>
    split
    · refine .startGroups _ (h.withGroup ?_ g)
      exact { h.group g with }
    · exact { h with }

theorem Figures.flowInDose (h : Figures s) (g : Fin 8) : Figures (flowInDose g s) := by
  have hcount : Figures (countFlow g s) := by
    refine h.withGroup ?_ g
    exact { h.group g with dosed := Nat.min_le_left _ _ }
  by_cases hearly : flowTooEarly (countFlow g s) = true
  · rw [flowInDose_early hearly]
    exact hcount.wateringConflict
  · have hjudged : Figures (countFlow g s).flowJudged := by
      rw [flowJudged_eq]
      exact .ite (fun _ => { hcount with noFlow := ⟨Nat.zero_le _, fun _ => Nat.zero_le _⟩ }) fun _ => hcount
    rw [flowInDose_judged hearly]
    exact Figures.checkClosedPeriod (.ite (fun _ => { hjudged with }) fun _ => hjudged)

theorem Figures.flowPulse (h : Figures s) : Figures (flowPulse s) := by
  unfold Machine.flowPulse flowOutsideDose
  refine .ite (fun _ => .ite (fun _ => ?_) fun _ => h) fun _ => ?_
  · split
    · exact h.flowInDose _
    · exact h
  · split
    · exact .ite (fun _ => h.wateringConflict) fun _ => h
    · exact .ite (fun _ => h) fun _ => { h with }
    all_goals exact h

/-- The second no-flow pulse ends the round, so the count stays at most 1 while it goes on (R171). -/
theorem Figures.flowWindowPasses (h : Figures s) (hround : s.rnd.round = .watering) : Figures (flowWindowPasses s) := by
  have hcount := h.noFlow.2 hround
  refine .ite (fun _ => Figures.checkClosedPeriod { h with }) fun _ => .ite (fun _ => .wateringEnds ?_ _ _) fun hfirst =>
    .checkClosedPeriod ?_
  · exact { h.atRest with noFlow := ⟨Nat.succ_le_succ hcount, nofun⟩ }
  · have hone : s.wat.noFlow + 1 ≤ 1 := by
      have hnot : ¬ 2 ≤ s.wat.noFlow + 1 := hfirst
      omega
    exact { h with noFlow := ⟨hone.trans one_le_two, fun _ => hone⟩ }

theorem Figures.levelEdge (h : Figures s) (i : LevelInput) (toActive : Bool) : Figures (levelEdge i toActive s) := by
  unfold Machine.levelEdge
  split
  · exact h.fbToEqualise
  · exact h.fbToFloat
  · exact .ite (fun _ => h.enterTransferOut) fun _ => h
  · exact h.chargerLost
  · exact .ite (fun _ => { h with }) fun _ => h
  · exact h

/-! ### Contention, loss and the panel -/

theorem Figures.backToDue (h : Figures s) (r : Resource) : Figures (backToDue r s) := by
  unfold Machine.backToDue
  split
  · exact { h with noFlow := ⟨h.noFlow.1, nofun⟩ }
  · exact { h with noFlow := ⟨h.noFlow.1, nofun⟩ }
  · exact h

theorem Figures.claimHeld (h : Figures s) {r : Resource} (hstate : (s.clm.machine r).state = .contending) :
    Figures (claimHeld r s) := by
  have hheld (m : ClaimMachine) (hm : m = { s.clm.machine r with state := .held, windowTimer := none, yielding := false }) :
      m.InRange :=
    (h.machine r).of_claim (by rw [hm]) (by rw [hm]) (by rw [hm]) fun _ => by rw [hstate]; exact nofun
  cases r
  · refine Figures.enterPrepare ?_ h.eq.share
    exact { h with eq := hheld _ rfl, history := ⟨Nat.zero_le _, Nat.zero_le _⟩ }
  · exact Figures.enterWatering { h with water := hheld _ rfl }

theorem Figures.windowExpires (h : Figures s) {r : Resource} (hstate : (s.clm.machine r).state = .contending) :
    Figures (windowExpires r s) :=
  .ite (fun _ => h.claimHeld hstate) fun _ => (h.withdraw r).backToDue r

theorem Figures.rndYield (h : Figures s) : Figures (rndYield s) := by
  unfold Machine.rndYield
  split
  case h_1 => exact h.prepareEnds _ _
  case h_2 | h_3 => exact h.goBack _ _
  case h_4 => exact { h with }
  case h_5 => exact h.atRest.wateringEnds _ _
  all_goals exact h

theorem Figures.claimOutranked (h : Figures s) (r : Resource) : Figures (claimOutranked r s) := by
  unfold Machine.claimOutranked
  dsimp only
  split
  · exact ((h.withdraw r).startBackOff r).backToDue r
  · exact (h.withdraw r).backToDue r
  · refine .ite (fun _ => h) fun _ => .rndYield (.withMachine h ?_ r)
    exact (h.machine r).of_claim rfl rfl le_rfl id
  all_goals exact h

theorem Figures.claimTest (h : Figures s) (r : Resource) (before after : PeerRecord) : Figures (claimTest r before after s) := by
  by_cases hloses : LosesOnUpdate s before after r
  · rw [claimTest_of_loses hloses]
    exact h.claimOutranked r
  · rw [claimTest_of_not_loses hloses]
    exact h

theorem Figures.peerUpdated (h : Figures s) (before after : PeerRecord) : Figures (peerUpdated before after s) := by
  have htable : Figures (s.withRecord after) := { h with }
  exact (htable.claimTest .eq before after).claimTest .water before after

theorem Figures.holdMachine (h : Figures s) (r : Resource) : Figures (holdMachine r s) := by
  unfold Machine.holdMachine
  split
  · exact (h.withdraw r).backToDue r
  · exact (h.withdraw r).backToDue r
  all_goals exact h

theorem Figures.stopClaim (h : Figures s) (r : Resource) : Figures (stopClaim r s) := by
  unfold Machine.stopClaim
  split
  · exact ((h.withdraw r).startBackOff r).atRest
  · exact ((h.withdraw r).startBackOff r).atRest
  all_goals exact h

theorem Figures.stopActs (h : Figures s) : Figures (stopActs s) := by
  unfold Machine.stopActs
  split
  case h_1 | h_2 => exact h.atRest.startBackOff _
  case h_3 | h_4 => exact h.stopClaim _
  case h_5 => exact .ite (fun _ => h.prepareEnds _ _) fun _ => h
  case h_6 | h_7 => exact .ite (fun _ => h.goBack _ _) fun _ => h
  case h_8 => exact .ite (fun _ => { h with }) fun _ => h
  case h_9 => exact .ite (fun _ => h.atRest.wateringEnds _ _) fun _ => h
  all_goals exact h

theorem Figures.clearLatches (h : Figures s) : Figures (clearLatches s) := by
  have hcleared : Figures s.unlatched := { h with }
  exact .ite (fun _ => hcleared.atRest) fun _ =>
    .ite (fun _ => hcleared.enterTransferBack.commandFloatWithCheck false) fun _ => hcleared

theorem Figures.roundLeavesLine (h : Figures s) (cause : AbortCause) : Figures (roundLeavesLine cause s) := by
  unfold Machine.roundLeavesLine
  split
  case h_1 | h_2 | h_3 | h_4 => exact h.atRest
  case h_5 => exact h.prepareEnds _ _
  case h_6 =>
    have hnow : Figures { s with rnd.deferred := none } := { h with }
    exact (hnow.fixOutcome _ _).enterTransferBack.commandFloatWithCheck false
  case h_7 | h_8 => exact (h.fixOutcome _ _).enterTransferBack.commandFloatWithWindow
  case h_9 => exact .ite (fun _ => h.commandFloatWithWindow) fun _ => h
  case h_10 => exact h.atRest.wateringEnds _ _
  all_goals exact h

theorem Figures.leaveLine (h : Figures s) (mode : NodeMode) (cause : AbortCause) : Figures (leaveLine mode cause s) := by
  unfold Machine.leaveLine
  have hquiet : Figures
      { s with cfg.mode := mode, cfg.joiningTimer := none, clm.statusTimer := none, lin.attempt := none,
               lin.recovering := false, lin.isolationTimer := none } := { h with }
  exact { (hquiet.roundLeavesLine cause).dropClaims with }

/-! ### The round at a sample set -/

theorem nextDuty_le {foldBack : Bool} {applied : Nat} {i : Int} {duty : Nat} (h : duty ≤ 1023) :
    nextDuty foldBack applied i duty ≤ 1023 := by
  unfold nextDuty
  split_ifs <;> omega

theorem Figures.equaliseSample (h : Figures s) : Figures (equaliseSample s) := by
  have hband : Figures (stepBand s) :=
    { h with
      timers := ⟨Nat.min_le_left _ _, by
        show (if s.mon.band then min 86400 (s.rnd.bandTimer + 1) else 0) ≤ 86400
        split_ifs <;> omega, h.timers.2.2⟩
      noFlow := ⟨h.noFlow.1, by
        show (if s.mon.band then RoundState.soak else .equalising) = .watering → _
        split_ifs <;> exact nofun⟩ }
  unfold Machine.equaliseSample
  refine .ite (fun _ => h.goBack _ _) fun _ => .ite (fun _ => h.goBack _ _) fun _ => ?_
  dsimp only
  split
  · exact hband.goBack _ _
  · have happlied : Figures (applyPending (stepBand s)) :=
      .ite (fun _ => { hband with shares := ⟨hband.shares.2, hband.shares.2⟩ }) fun _ => hband
    exact happlied.setDuty (nextDuty_le happlied.duty.1)

theorem claimShare_le (h : ConfigInRange s.cfg.config) : claimShare s ≤ 5000 := by
  have hbus := h.eBus.2
  unfold claimShare
  omega

theorem Figures.roundSample (h : Figures s) : Figures (roundSample s) := by
  have hto (x : RoundState) (hx : x ≠ .watering) : Figures { s with rnd.round := x } :=
    { h with noFlow := ⟨h.noFlow.1, fun hw => absurd hw hx⟩ }
  unfold Machine.roundSample
  split
  case h_1 => exact .ite (fun _ => hto _ nofun) fun _ => .ite (fun _ => hto _ nofun) fun _ => h
  case h_2 =>
    refine .ite (fun _ => .ite (fun _ => ?_) fun _ => h) fun _ => h.atRest
    have hmade := h.makeClaim (presentedScore_le h.account) (claimShare_le h.config) .eq
    exact { hmade with noFlow := ⟨hmade.noFlow.1, nofun⟩ }
  case h_3 =>
    refine .ite (fun _ => .ite (fun _ => ?_) fun _ => h) fun _ => h.atRest
    have hmade := h.makeClaim (share := 0) h.account.urgency (Nat.zero_le _) .water
    exact { hmade with noFlow := ⟨hmade.noFlow.1, nofun⟩ }
  case h_4 | h_5 => exact .ite (fun _ => h) fun _ => (h.withdraw _).atRest
  case h_6 => exact .ite (fun _ => h.prepareEnds _ _) fun _ => .ite (fun _ => h.prepareEnds _ _) fun _ => h
  case h_7 | h_8 => exact h.equaliseSample
  case h_9 => exact .ite (fun _ => h.commandFloatWithWindow) fun _ => h
  all_goals exact h

end Sys2Proof.Machine
end

section
/-! SUPPORT. The measurements of a sample set in their ranges: channels, spread block and account. -/

namespace Sys2Proof.Machine

variable {s t u : State}

/-! ### Channels -/

theorem Channel.InRange.stepValid {lo hi v : Int} {c : Channel} (h : c.InRange lo hi) (hv : lo ≤ v ∧ v ≤ hi)
    (clamped : Bool) :
    (c.stepValid v clamped).InRange lo hi := by
  unfold Channel.stepValid
  cases hf : c.freshness with
  | stale =>
    dsimp only
    split_ifs with hlow
    · exact ⟨hv, nofun, nofun, fun _ => ⟨(h.stale hf).1, hlow⟩, fun hx => absurd rfl hx⟩
    · exact ⟨hv, fun _ => rfl, nofun, nofun, fun _ => rfl⟩
  | fresh | held => exact ⟨hv, fun _ => rfl, nofun, nofun, fun _ => h.recovery (by rw [hf]; exact nofun)⟩

theorem Channel.InRange.stepInvalid {lo hi : Int} {c : Channel} (h : c.InRange lo hi) : c.stepInvalid.InRange lo hi := by
  unfold Channel.stepInvalid
  cases hf : c.freshness with
  | stale => exact ⟨h.value, nofun, nofun, fun _ => ⟨rfl, Nat.zero_le _⟩, fun hx => absurd rfl hx⟩
  | fresh =>
    exact ⟨h.value, nofun, fun _ => ⟨le_rfl, (by decide : 1 ≤ 4)⟩, nofun, fun _ => h.recovery (by rw [hf]; exact nofun)⟩
  | held =>
    dsimp only
    split_ifs with hlow
    · exact ⟨h.value, nofun, fun _ => ⟨Nat.succ_pos _, hlow⟩, nofun, fun _ => h.recovery (by rw [hf]; exact nofun)⟩
    · exact ⟨h.value, nofun, nofun, fun _ => ⟨rfl, Nat.zero_le _⟩, fun hx => absurd rfl hx⟩

theorem acceptValue_range {lo hi : Int} (h : lo ≤ hi) (v : Int) :
    lo ≤ (acceptValue lo hi v).1 ∧ (acceptValue lo hi v).1 ≤ hi := by
  unfold acceptValue
  split_ifs <;> constructor <;> dsimp only <;> omega

theorem channelReading_range {lo hi v : Int} (hrange : lo ≤ hi) {examined signed clamped : Bool} {words : List ScanWord} {i : Nat}
    (h : channelReading examined signed lo hi words i = some (v, clamped)) : lo ≤ v ∧ v ≤ hi := by
  unfold channelReading readChannelWord at h
  split_ifs at h
  · have haccepted := acceptValue_range hrange (wordData (scanWordAt words i)).toInt
    rwa [Option.some.inj h] at haccepted
  · have haccepted := acceptValue_range hrange ((wordData (scanWordAt words i)).toNat : Int)
    rwa [Option.some.inj h] at haccepted

/-- A channel's step by what its word gave keeps it in the plausible range of the word (R9, R10). -/
theorem Channel.InRange.step {lo hi : Int} {c : Channel} (h : c.InRange lo hi) (hrange : lo ≤ hi) (examined signed : Bool)
    (words : List ScanWord) (i : Nat) : (c.step (channelReading examined signed lo hi words i)).InRange lo hi := by
  unfold Channel.step
  cases hread : channelReading examined signed lo hi words i with
  | none => exact h.stepInvalid
  | some reading => exact h.stepValid (channelReading_range hrange hread) _

theorem stepBlocs_inRange {blocs : List Channel} (h : ∀ c ∈ blocs, c.InRange 0 4000) (examined : Bool) (words : List ScanWord) :
    ∀ c ∈ stepBlocs examined words blocs, c.InRange 0 4000 := fun c hc => by
  obtain ⟨i, hi, rfl⟩ := List.mem_mapIdx.mp hc
  exact (h _ (List.getElem_mem hi)).step (by decide) examined false words (i + 1)

/-! ### The spread block -/

theorem participatingValues_le {blocs : List Channel} (h : ∀ c ∈ blocs, c.InRange 0 4000) :
    ∀ v ∈ participatingValues blocs, v ≤ 4000 := fun v hv => by
  obtain ⟨c, hc, rfl⟩ := List.mem_map.mp hv
  obtain ⟨-, hhigh⟩ := (h c (List.mem_of_mem_filter hc)).value
  omega

theorem spreadOf_le {values : List Nat} (h : ∀ v ∈ values, v ≤ 4000) {d : Nat} (hd : spreadOf values = some d) :
    d ≤ 4000 := by
  by_cases hfew : values.length < 2
  · rw [spreadOf_few hfew] at hd
    cases hd
  · obtain ⟨lo, hi, -, hmem, -, hspread⟩ := spreadOf_spec (l := values) (by omega)
    obtain rfl := Option.some.inj (hspread.symm.trans hd)
    exact (Nat.sub_le _ _).trans (h hi hmem)

theorem SpreadInRange.stepSpreadBlock {m : Mon} (h : SpreadInRange m) (cfg : Configuration) (current : Channel)
    (round : RoundState) : SpreadInRange (m.stepSpreadBlock cfg current round) := by
  have hsum := h.sum
  have hcount := h.count
  have hspread : m.spread.getD 0 ≤ 4000 := by
    cases hm : m.spread with
    | none => exact Nat.zero_le _
    | some d => exact h.spread d hm
  unfold Mon.stepSpreadBlock
  split_ifs with hsettled hfull
  · exact ⟨h.spread, Nat.zero_le _, Nat.zero_le _, by dsimp only; omega⟩
  · exact ⟨h.spread, by dsimp only; omega, by dsimp only; omega, h.sFloat⟩
  · exact ⟨h.spread, Nat.zero_le _, Nat.zero_le _, h.sFloat⟩

theorem SpreadInRange.sampleSet {m : Mon} (h : SpreadInRange m) (cfg : Configuration) {scn : Scn}
    (hblocs : ∀ c ∈ scn.blocs, c.InRange 0 4000) (round : RoundState) : SpreadInRange (m.sampleSet cfg scn round) := by
  unfold Mon.sampleSet
  refine { (SpreadInRange.stepSpreadBlock ?_ cfg scn.current round) with }
  exact { h with spread := fun d hd => spreadOf_le (participatingValues_le hblocs) hd }

theorem stepSpreadBlock_monitors (m : Mon) (cfg : Configuration) (current : Channel) (round : RoundState) :
    (m.stepSpreadBlock cfg current round).monitors = m.monitors := by
  unfold Mon.stepSpreadBlock
  split_ifs <;> rfl

theorem sampleSet_monitors_length (m : Mon) (cfg : Configuration) (scn : Scn) (round : RoundState) :
    (m.sampleSet cfg scn round).monitors.length = min scn.blocs.length m.monitors.length :=
  (congrArg List.length (stepSpreadBlock_monitors _ cfg scn.current round)).trans List.length_zipWith

/-! ### The account -/

variable {c : Configuration} {a : Acc}

theorem satAdd_le (count n : Nat) : satAdd count n ≤ countLimit := Nat.min_le_left _ _

theorem Acc.InRange.integrate (h : a.InRange c) (current : Channel) : (a.integrate c current).InRange c := by
  have hcharge : ∀ n, (a.bookCharge c n).InRange c := fun n => by
    unfold Acc.bookCharge
    dsimp only
    split_ifs with hbelow hfits
    · exact { h with charge := by dsimp only; omega, gassing := satAdd_le _ _ }
    · exact { h with charge := le_rfl, gassing := satAdd_le _ _ }
    · exact { h with gassing := satAdd_le _ _ }
  have hdischarge : ∀ n, (a.bookDischarge n).InRange c := fun n =>
    { h with charge := (Nat.sub_le _ _).trans h.charge, discharged := satAdd_le _ _ }
  unfold Acc.integrate
  dsimp only
  split_ifs
  · exact { hdischarge _ with }
  · exact { h with }
  · exact { hcharge _ with }
  · exact { h with }

theorem Acc.InRange.stepFull (h : a.InRange c) (current : Channel) (round : RoundState) :
    (a.stepFull c current round).InRange c := by
  unfold Acc.stepFull
  split_ifs
  · exact { h with charge := le_rfl, fullTimer := le_rfl }
  · exact { h with fullTimer := Nat.min_le_left _ _ }
  · exact { h with fullTimer := Nat.zero_le _ }

theorem Acc.InRange.stepDetector (h : a.InRange c) (current : Channel) : (a.stepDetector c current).InRange c := by
  obtain ⟨hdischarge, hrecovery⟩ := h.runs
  have hzero : (0 : Nat) ≤ 59 := Nat.zero_le _
  unfold Acc.stepDetector
  split_ifs with _ _ hlow _ hlow
  · exact { h with runs := ⟨hdischarge, hlow⟩ }
  · exact { h with runs := ⟨hzero, hzero⟩ }
  · exact { h with runs := ⟨hdischarge, hzero⟩ }
  · exact { h with runs := ⟨hlow, hrecovery⟩ }
  · exact { h with runs := ⟨hzero, hzero⟩ }
  · exact { h with runs := ⟨hzero, hrecovery⟩ }

theorem Acc.InRange.refreshWater (h : a.InRange c) : a.refreshWater.InRange c :=
  { h with deficit := Nat.min_le_left _ _, urgency := Nat.min_le_left _ _ }

theorem spreadTerm_le (c : Configuration) (sFloat : Nat) : spreadTerm c sFloat ≤ 300 := by
  unfold spreadTerm
  split_ifs with hlow hhigh
  · exact Nat.zero_le _
  · exact le_rfl
  · exact Nat.div_le_of_le_mul (by rw [Nat.mul_comm]; exact Nat.mul_le_mul_right 300 (by omega))

theorem Acc.InRange.stepScore (h : a.InRange c) (mon : Mon) : (a.stepScore c mon).InRange c := by
  refine { h with terms := ⟨Nat.min_le_left _ _, Nat.min_le_left _ _, ?_⟩ }
  show (if mon.sFloatValid then spreadTerm c mon.sFloat else a.ts) ≤ 300
  split_ifs
  · exact spreadTerm_le _ _
  · exact h.terms.2.2

theorem Acc.InRange.sampleSet (h : a.InRange c) (current : Channel) (round : RoundState) (mon : Mon) :
    (a.sampleSet c current round mon).InRange c :=
  ((((h.integrate current).stepFull current round).stepDetector current).refreshWater).stepScore mon

/-! ### A sample set taken in -/

theorem channelsInRange_conditioned (h : ChannelsInRange s) (words : List ScanWord) : ChannelsInRange (conditioned words s) := by
  obtain ⟨q, hform⟩ := conditioned_form (s := s) words
  have hcfg : (conditioned words s).cfg = s.cfg := (congrArg State.cfg hform :)
  obtain ⟨hlength, hblocs⟩ := h.blocs
  constructor
  · rw [conditioned_scn, hcfg]
    exact ⟨List.length_mapIdx.trans hlength, stepBlocs_inRange hblocs _ _⟩
  · rw [conditioned_scn]
    exact h.current.step (by decide) _ _ _ _
  · rw [conditioned_scn]
    exact h.voltage.step (by decide) _ _ _ _
  · rw [conditioned_scn]
    exact h.pilot.step (by decide) _ _ _ _
  · rw [conditioned_scn]
    exact h.ambient.step (by decide) _ _ _ _
  · rw [conditioned_scn]
    rfl
  · rw [conditioned_mon, sampleSet_monitors_length, hcfg, h.monitors,
      show (s.scn.complete words).blocs.length = s.cfg.config.blocCount from List.length_mapIdx.trans hlength]
    exact Nat.min_self _

end Sys2Proof.Machine
end

section
/-! SUPPORT. Every command keeps every counted value in its range. -/

namespace Sys2Proof.Machine

open Sys2Proof

variable {s t u : State}

/-! ### What the rounds and the claims leave alone -/

/-- `t` has the configuration, the measurements and the inputs of `s`, and of its line no more than `s` has. -/
structure MeasuresStand (s t : State) : Prop where
  config : t.cfg.config = s.cfg.config
  read : t.cfg.readEnded = s.cfg.readEnded
  scn : t.scn = s.scn
  mon : t.mon = s.mon
  attempt : ∀ a, t.lin.attempt = some a → s.lin.attempt = some a
  retry : t.lin.retry = s.lin.retry
  probes : t.fld.probes.length = s.fld.probes.length
  rest : s.cfg.readEnded = false → t.rnd.restTimer = s.rnd.restTimer

theorem RoundFrame.measuresStand (k : RoundFrame s t) : MeasuresStand s t where
  config := congrArg Cfg.config k.cfg
  read := congrArg Cfg.readEnded k.cfg
  scn := k.scn
  mon := k.mon
  attempt a ha := k.lin ▸ ha
  retry := congrArg Lin.retry k.lin
  probes := by rw [k.fld]
  rest _ := k.restTimer

theorem ValuesInRange.figures (h : ValuesInRange s) : Figures s :=
  { h with
    groups := fun r hr => by
      obtain ⟨hcarried, htarget, hcap, hdosed⟩ := h.groups r hr
      exact ⟨hcarried, htarget, hcap, hdosed⟩
    eight := h.lists.1 }

theorem ValuesInRange.of_figures (h : ValuesInRange s) (k : MeasuresStand s t) (f : Figures t) : ValuesInRange t where
  config := f.config
  channels :=
    { blocs := by rw [k.scn, k.config]; exact h.channels.blocs
      current := k.scn ▸ h.channels.current
      voltage := k.scn ▸ h.channels.voltage
      pilot := k.scn ▸ h.channels.pilot
      ambient := k.scn ▸ h.channels.ambient
      stale := by rw [k.scn]; exact h.channels.stale
      monitors := by rw [k.mon, k.config]; exact h.channels.monitors }
  spread := k.mon ▸ h.spread
  account := f.account
  eq := f.eq
  water := f.water
  nextTag := f.nextTag
  sentTag a r n ha := h.sentTag a r n (k.attempt a ha)
  retry := k.retry.trans_le h.retry
  duty := f.duty
  timers := f.timers
  history := f.history
  shares := f.shares
  idle := idleTimer_le t
  groups r hr := by
    obtain ⟨hcarried, htarget, hcap, hdosed⟩ := f.groups r hr
    exact ⟨hcarried, htarget, hcap, hdosed⟩
  noFlow := f.noFlow
  lists := ⟨f.eight, k.probes.trans h.lists.2⟩
  records := f.records
  unread hread := by
    rw [k.read] at hread
    obtain ⟨hscan, hrest, hstale⟩ := h.unread hread
    rw [k.scn]
    exact ⟨hscan, (k.rest hread).trans hrest, hstale⟩

theorem ValuesInRange.of_round (h : ValuesInRange s) (k : RoundFrame s t) (f : Figures s → Figures t) : ValuesInRange t :=
  h.of_figures k.measuresStand (f h.figures)

theorem ValuesInRange.reach (h : ValuesInRange s) (d : Nat) : ValuesInRange (s.reach d) :=
  { h with channels := { h.channels with }, idle := idleTimer_le _ }

theorem ValuesInRange.elapse (h : ValuesInRange s) (after : Nat) : ValuesInRange (s.elapse after) :=
  { h with channels := { h.channels with }, idle := idleTimer_le _ }

theorem ValuesInRange.ite {c : Prop} [Decidable c] (h : c → ValuesInRange s) (k : ¬ c → ValuesInRange t) :
    ValuesInRange (if c then s else t) := by
  split
  · next hc => exact h hc
  · next hc => exact k hc

theorem ValuesInRange.requestStatus (h : ValuesInRange s) : ValuesInRange (requestStatus s) :=
  h.of_round (frame_requestStatus s) Figures.requestStatus

/-! ### The line -/

theorem ValuesInRange.leaveLine (h : ValuesInRange s) (mode : NodeMode) (cause : AbortCause) :
    ValuesInRange (leaveLine mode cause s) := by
  have hoff : ValuesInRange (s.offLine mode) :=
    { h with
      channels := { h.channels with }
      sentTag := fun a r n ha => (nomatch ha)
      retry := Nat.zero_le _
      idle := idleTimer_le _ }
  exact hoff.of_round (frame_leaveLine mode cause s) fun _ => h.figures.leaveLine mode cause

theorem ValuesInRange.countRetry (h : ValuesInRange s) : ValuesInRange (countRetry s) := by
  obtain ⟨-, he⟩ | ⟨-, -, he⟩ | ⟨-, hlow, he⟩ := countRetry_cases s
  · rw [he]
    exact { h with channels := { h.channels with }, retry := Nat.zero_le _, idle := idleTimer_le _ }
  · rw [he]
    exact h.leaveLine _ _
  · rw [he]
    exact { h with channels := { h.channels with }, retry := hlow, idle := idleTimer_le _ }

/-- An attempt takes its notice with a tag given out (R83, R114). -/
theorem ValuesInRange.beginAttempt (h : ValuesInRange s) {k : NoticeKey} (hk : s.nextNotice = some k) :
    ValuesInRange (beginAttempt k s) := by
  have hretry : (if s.lin.lastNotice = some k then s.lin.retry else 0) ≤ 7 := by
    have hseven := h.retry
    split_ifs <;> omega
  refine { h with channels := { h.channels with }, retry := hretry, idle := idleTimer_le _, sentTag := fun a r n ha hclaim => ?_ }
  obtain rfl := Option.some.inj ha
  obtain rfl : k = .claim r n := hclaim
  obtain ⟨hstate, htag⟩ := queueHead_claim (nextNotice_queue hk nofun)
  obtain ⟨hhigh, hlow, -, -⟩ := h.machine r
  exact htag ▸ ⟨hlow (by rw [hstate]; exact nofun), hhigh⟩

theorem ValuesInRange.noticeSent (h : ValuesInRange s) {k : NoticeKey} (hk : ∀ r n, k = .claim r n → 1 ≤ n ∧ n ≤ 255) :
    ValuesInRange (noticeSent k s) := by
  cases k with
  | release r n => exact h.of_round (frame_releaseCompleted r n s) fun f => f.releaseCompleted r n
  | claim r n => exact h.of_round (frame_claimCompleted r n s) fun f => f.claimCompleted r (hk r n rfl)
  | report | status => exact { h with channels := { h.channels with }, idle := idleTimer_le _ }
  | recovery => exact { h with channels := { h.channels with }, idle := idleTimer_le _ }

theorem ValuesInRange.peerUpdated (h : ValuesInRange s) (before after : PeerRecord) :
    ValuesInRange (peerUpdated before after s) := by
  have htable : ValuesInRange { s with ptb := putPeer after s.ptb } :=
    { h with channels := { h.channels with }, idle := idleTimer_le _ }
  exact htable.of_round (frame_peerUpdated before after s) fun _ => h.figures.peerUpdated before after

theorem ValuesInRange.acts (h : ValuesInRange s) : ActsKeep ValuesInRange s where
  hold m := by
    have hstarts : ValuesInRange (holdStarts s) :=
      h.of_round (frame_holdStarts s) fun f => (f.holdMachine .eq).holdMachine .water
    refine .ite (fun _ => .ite (fun _ => .ite (fun _ => .requestStatus ?_) fun _ => h) fun _ => .requestStatus ?_) fun _ => h
    · exact { h with channels := { h.channels with }, idle := idleTimer_le _ }
    · by_cases hheld : s.cfg.hold = true
      · rw [if_pos hheld]
        exact { h with channels := { h.channels with }, idle := idleTimer_le _ }
      · rw [if_neg hheld]
        exact { hstarts with channels := { hstarts.channels with }, idle := idleTimer_le _ }
  stop _ := .ite (fun _ => (h.of_round (frame_stopActs s) Figures.stopActs).requestStatus) fun _ => h
  forceEq _ := .ite (fun _ => .requestStatus { h with
    channels := { h.channels with }, account := { h.account with }, idle := idleTimer_le _ }) fun _ => h
  forceWater _ := .ite (fun _ => .requestStatus { h with
    channels := { h.channels with }, account := { h.account with }, idle := idleTimer_le _ }) fun _ => h
  clear _ := .ite (fun _ => (h.of_round (frame_clearLatches s) Figures.clearLatches).requestStatus) fun _ => h
  query _ := .ite (fun _ => { h with channels := { h.channels with }, idle := idleTimer_le _ }) fun _ => h

theorem valuesInRange_hearFrame {c : Instr} {after : Nat} {frame : List Byte} (hc : FrameCommand c after frame)
    (h : ValuesInRange s) : ValuesInRange (hearFrame frame (frameReader c) s) := by
  have hends : ValuesInRange (frameEnds s) := { h with channels := { h.channels with }, idle := idleTimer_le _ }
  refine hearFrame_induction frame _ h { h with channels := { h.channels with }, idle := idleTimer_le _ } hends
    (fun _ => hends.leaveLine _ _) fun n _ _ _ => ?_
  exact frameReader_induction hc n hends (fun _ => { hends with channels := { hends.channels with }, idle := idleTimer_le _ })
    (fun before after => hends.peerUpdated before after) hends.acts

/-! ### Start-up -/

theorem ValuesInRange.checkStartUp (h : ValuesInRange s) : ValuesInRange (checkStartUp s) := by
  have hfull : s.acc.InRange s.cfg.config → Acc.InRange s.cfg.config { s.acc with charge := qmax s.cfg.config } :=
    fun ha => { ha with charge := le_rfl }
  refine .ite (fun _ => .ite (fun _ => ?_) fun _ => .ite (fun _ => ?_) fun _ => ?_) fun _ => h
  · exact { h with channels := { h.channels with }, account := hfull h.account, idle := idleTimer_le _ }
  · exact { h with channels := { h.channels with }, account := hfull h.account, idle := idleTimer_le _ }
  · exact { h with channels := { h.channels with }, account := hfull h.account, idle := idleTimer_le _ }

theorem staleOne_of_stale {c : Channel} (h : c.freshness = .stale) : c.staleOne = 1 := by simp [Channel.staleOne, Channel.usable, h]

/-- The channels and monitors in use are made anew, all STALE (R8, R15). -/
theorem channelsInRange_configure {c : Configuration} (h : ChannelsInRange s) (failed clamped : Bool)
    (hstale : ∀ x, x = s.scn.current ∨ x = s.scn.voltage ∨ x = s.scn.pilot ∨ x = s.scn.ambient → x.freshness = .stale) :
    ChannelsInRange (configure c failed clamped s) where
  blocs := ⟨List.length_replicate, fun x hx => (List.eq_of_mem_replicate hx) ▸ resetChannel_inRange (by decide) (by decide)⟩
  current := h.current
  voltage := h.voltage
  pilot := h.pilot
  ambient := h.ambient
  stale := by
    show c.blocCount + 4 = countStale (List.replicate c.blocCount resetChannel) s.scn.current s.scn.voltage s.scn.pilot s.scn.ambient
    rw [countStale, List.map_replicate, List.sum_replicate, staleOne_of_stale (hstale _ (.inl rfl)),
      staleOne_of_stale (hstale _ (.inr (.inl rfl))), staleOne_of_stale (hstale _ (.inr (.inr (.inl rfl)))),
      staleOne_of_stale (hstale _ (.inr (.inr (.inr rfl))))]
    simp [staleOne_of_stale (c := resetChannel) rfl]
  monitors := List.length_replicate

theorem ValuesInRange.configure {c : Configuration} (h : ValuesInRange s) (hc : ConfigInRange c) (hread : s.cfg.readEnded = false)
    (failed clamped : Bool) : ValuesInRange (configure c failed clamped s) := by
  obtain ⟨-, hrest, hstale⟩ := h.unread hread
  exact { h with
    config := hc
    channels := channelsInRange_configure h.channels failed clamped hstale
    spread := { h.spread with }
    account := { h.account with charge := le_rfl }
    timers := ⟨h.timers.1, h.timers.2.1, hrest.trans_le (Nat.zero_le _)⟩
    lists := ⟨h.lists.1, by simp [Machine.configure, Fld.startConditioning]⟩
    idle := idleTimer_le _
    unread := nofun }

theorem checkedConfiguration_inRange {record : List Byte} (h : recordPasses record = true) :
    ConfigInRange (checkedConfiguration record) := by
  obtain ⟨hlen, -, -⟩ := (recordPasses_iff record).mp h
  exact configInRange_clamp _ (rawCells_length record hlen).ge

/-! ### The sample set -/

/-- The measurements, the temperature and the rest timer of a sample set taken in; it comes after the read alone (R2). -/
theorem ValuesInRange.conditioned (h : ValuesInRange s) (hread : s.cfg.readEnded = true) (words : List ScanWord) :
    ValuesInRange (conditioned words s) := by
  obtain ⟨q, hform⟩ := conditioned_form (s := s) words
  have hcfg : (Machine.conditioned words s).cfg = s.cfg := (congrArg State.cfg hform :)
  obtain ⟨hblocs, hcurrent, hvoltage, hpilot, hambient, hstale, hmonitors⟩ := channelsInRange_conditioned h.channels words
  rw [hcfg] at hblocs hmonitors
  obtain ⟨-, hrange⟩ := h.channels.blocs
  have hspread : SpreadInRange (Machine.conditioned words s).mon := by
    rw [conditioned_mon]
    exact h.spread.sampleSet _ (stepBlocs_inRange hrange _ _) _
  have haccount : (Machine.conditioned words s).acc.InRange s.cfg.config := by
    rw [conditioned_acc]
    exact h.account.sampleSet _ _ _
  have hrest (recognised : Bool) :
      stepRestTimer s.cfg.config s.rnd.round recognised s.rnd.restTimer ≤ restSeconds s.cfg.config := by
    unfold stepRestTimer
    split_ifs <;> omega
  rw [hform]
  exact { h with
    channels := ⟨hblocs, hcurrent, hvoltage, hpilot, hambient, hstale, hmonitors⟩
    spread := hspread
    account := haccount
    timers := ⟨h.timers.1, h.timers.2.1, hrest _⟩
    idle := idleTimer_le _
    unread := fun hunread => Bool.noConfusion (hread.symm.trans hunread) }

theorem ValuesInRange.deliverSampleSet (h : ValuesInRange s) (hread : s.cfg.readEnded = true) (words : List ScanWord) :
    ValuesInRange (deliverSampleSet words s) := by
  have hc := h.conditioned hread words
  have hform := (stepFrame_delivered words s).form
  have hcread : (Machine.conditioned words s).cfg.readEnded = true := by
    obtain ⟨q, hq⟩ := conditioned_form (s := s) words
    exact ((congrArg (fun v : State => v.cfg.readEnded) hq).trans hread :)
  refine hc.of_figures ⟨?_, ?_, ?_, ?_, fun a ha => ?_, ?_, ?_, fun hunread => Bool.noConfusion (hcread.symm.trans hunread)⟩
    (hc.figures.roundSample.reduceShare _)
  · exact (congrArg (fun v : State => v.cfg.config) hform :)
  · exact (congrArg (fun v : State => v.cfg.readEnded) hform :)
  · exact (congrArg State.scn hform :)
  · exact (congrArg State.mon hform :)
  · exact ((congrArg (fun v : State => v.lin.attempt) hform :).symm.trans ha)
  · exact (congrArg (fun v : State => v.lin.retry) hform :)
  · exact (congrArg (fun v : State => v.fld.probes.length) hform :)

/-- A second passes: a scan begins once the record is read (R2, R106). -/
theorem ValuesInRange.secondExpires (h : ValuesInRange s) : ValuesInRange (secondExpires s) :=
  { h with
    channels := { h.channels with }
    idle := idleTimer_le _
    unread := fun hunread => by
      obtain ⟨hscan, hrest⟩ := h.unread hunread
      refine ⟨?_, hrest⟩
      show (if s.cfg.readEnded = true then _ else s.scn.scanEnds) = none
      rw [if_neg (by rw [show s.cfg.readEnded = false from hunread]; exact Bool.false_ne_true)]
      exact hscan }

/-! ### The inputs -/

theorem withLine_probes_length (f : Fld) (i : LevelInput) (l : LevelLine) :
    (f.withLine i l).probes.length = f.probes.length := by
  cases i with
  | fb | crdy => rfl
  | prb g => exact List.length_set ..

theorem withLine_pwmDuty (f : Fld) (i : LevelInput) (l : LevelLine) : (f.withLine i l).pwmDuty = f.pwmDuty := by
  cases i <;> rfl

theorem ValuesInRange.withLine (h : ValuesInRange s) (i : LevelInput) (l : LevelLine) :
    ValuesInRange { s with fld := s.fld.withLine i l } :=
  { h with
    channels := { h.channels with }
    duty := ⟨h.duty.1, (withLine_pwmDuty ..).trans_le h.duty.2⟩
    lists := ⟨h.lists.1, (withLine_probes_length ..).trans h.lists.2⟩
    idle := idleTimer_le _ }

theorem frame_levelEdge (i : LevelInput) (toActive : Bool) (s : State) : RoundFrame s (levelEdge i toActive s) := by
  unfold levelEdge
  split
  · exact frame_fbToEqualise s
  · exact frame_fbToFloat s
  · exact frame_chargerBecomesReady s
  · exact frame_chargerLost s
  · exact frame_probeToWet _ s
  · exact .refl s

theorem ValuesInRange.levelStands (h : ValuesInRange s) (i : LevelInput) : ValuesInRange (levelStands i s) :=
  .ite (fun _ => h.withLine _ _) fun _ =>
    (h.withLine _ _).of_round (frame_levelEdge i _ _) fun f => f.levelEdge i _

theorem ValuesInRange.flowTimerEnds (h : ValuesInRange s) : ValuesInRange (flowTimerEnds s) := by
  have hstopped (x : FlowState) : ValuesInRange { s with fld.flow := x, fld.flowTimer := none } :=
    { h with channels := { h.channels with }, idle := idleTimer_le _ }
  unfold Machine.flowTimerEnds
  dsimp only
  split
  · exact (hstopped .spent).of_round (frame_flowPulse _) Figures.flowPulse
  · exact hstopped .armed
  · exact hstopped s.fld.flow
  · exact hstopped s.fld.flow

/-! ### Every command -/

theorem ValuesInRange.listening (h : ValuesInRange s) (assembler : Assembler) (idle : IdleTimer) :
    ValuesInRange { s with lin.assembler := assembler, lin.idle := idle } :=
  { h with channels := { h.channels with }, idle := idleTimer_le _ }

theorem ValuesInRange.endAttempt (h : ValuesInRange s) : ValuesInRange (endAttempt s) :=
  { h with channels := { h.channels with }, sentTag := fun _ _ _ ha => (nomatch ha), idle := idleTimer_le _ }

theorem strapsSettled_inRange (h : ValuesInRange s) (after : Nat) (straps : BitVec 5) :
    Completes ValuesInRange (exec (.strapsSettled after straps) s) := by
  have htime := h.elapse after
  show Completes _ (execStrapsSettled after straps s)
  unfold execStrapsSettled
  dsimp only
  split
  · split_ifs
    · exact .of_next htime
    · exact .of_next (.checkStartUp { htime with channels := { htime.channels with }, idle := idleTimer_le _ })
  · exact .of_next htime

theorem configurationRead_inRange (h : ValuesInRange s) (record : List Byte) :
    Completes ValuesInRange (exec (.configurationRead record) s) := by
  show Completes _ (execConfigurationRead record s)
  unfold execConfigurationRead
  split_ifs with hread hpass
  · exact .of_next h
  · exact .of_next ((h.reach _).configure (checkedConfiguration_inRange hpass) (Bool.eq_false_iff.mpr hread) _ _)
  · exact .of_next ((h.reach _).configure configInRange_defaults (Bool.eq_false_iff.mpr hread) _ _)

theorem selfTest_inRange (h : ValuesInRange s) (looped : Option (List Byte)) :
    Completes ValuesInRange (exec (.selfTest looped) s) := by
  show Completes _ (execSelfTest looped s)
  unfold execSelfTest
  split
  · exact .of_next (.checkStartUp { h with channels := { h.channels with }, idle := idleTimer_le _ })
  all_goals exact .of_next h

theorem dominantCount_inRange (h : ValuesInRange s) (after : Nat) : Completes ValuesInRange (exec (.dominantCount after) s) := by
  have htime := h.elapse after
  show Completes _ (execDominantCount after s)
  unfold execDominantCount
  dsimp only
  split_ifs
  · exact .of_next (htime.listening _ _).countRetry
  · exact .of_next (htime.listening _ _)

theorem attemptStart_inRange (h : ValuesInRange s) (after : Nat) : Completes ValuesInRange (exec (.attemptStart after) s) := by
  have htime := h.elapse after
  show Completes _ (execAttemptStart after s)
  unfold execAttemptStart
  dsimp only
  split_ifs
  · split
    · next k hk => exact .of_next (htime.beginAttempt hk)
    · exact .of_next htime
  · exact .of_next htime

theorem arbitrationLost_inRange (h : ValuesInRange s) (after : Nat) :
    Completes ValuesInRange (exec (.arbitrationLost after) s) := by
  have htime := h.elapse after
  show Completes _ (execArbitrationLost after s)
  unfold execArbitrationLost
  dsimp only
  split
  · split_ifs
    · exact .of_next htime.endAttempt
    · exact .of_next htime
  · exact .of_next htime

theorem bitError_inRange (h : ValuesInRange s) (after : Nat) : Completes ValuesInRange (exec (.bitError after) s) := by
  have htime := h.elapse after
  show Completes _ (execBitError after s)
  unfold execBitError
  dsimp only
  split
  · split_ifs
    · exact .of_next (htime.endAttempt.listening _ _).countRetry
    · exact .of_next htime
  · exact .of_next htime

theorem attemptComplete_inRange (h : ValuesInRange s) : Completes ValuesInRange (exec .attemptComplete s) := by
  show Completes _ (execAttemptComplete s)
  unfold execAttemptComplete
  split
  · next a ha =>
    refine .of_next (.noticeSent ?_ fun r n hk => h.sentTag a r n ha hk)
    exact { h with
      channels := { h.channels with }
      sentTag := fun _ _ _ hnone => (nomatch hnone)
      retry := Nat.zero_le _
      idle := idleTimer_le _ }
  · exact .of_next h

theorem lineIdle_inRange (h : ValuesInRange s) (after : Nat) : Completes ValuesInRange (exec (.lineIdle after) s) := by
  have htime := h.elapse after
  show Completes _ (execLineIdle after s)
  unfold execLineIdle
  dsimp only
  split_ifs
  · exact .of_next htime
  · exact .of_next (htime.listening _ _)

theorem frameDiscarded_inRange (h : ValuesInRange s) (after : Nat) : Completes ValuesInRange (exec (.frameDiscarded after) s) := by
  have htime := h.elapse after
  show Completes _ (execFrameDiscarded after s)
  unfold execFrameDiscarded
  dsimp only
  split_ifs
  · exact .of_next htime
  · exact .of_next (htime.listening _ _)

theorem frameAbandoned_inRange (h : ValuesInRange s) (heard : AbandonedFrame) :
    Completes ValuesInRange (exec (.frameAbandoned heard) s) := by
  have htime := h.elapse heard.after
  show Completes _ (execFrameAbandoned heard s)
  unfold execFrameAbandoned
  dsimp only
  split_ifs
  · exact .of_next (htime.listening _ _)
  · exact .of_next htime

/-- A reset puts the reset values in place; the probes stay as many as they were (R190). -/
theorem ValuesInRange.afterReset (h : ValuesInRange s) : ValuesInRange (afterReset s) :=
  { valuesInRange_reset with
    channels := { valuesInRange_reset.channels with }
    idle := idleTimer_le _
    lists := ⟨rfl, (List.length_map ..).trans h.lists.2⟩ }

/-- The timers of a dose pulse and the dry latch are no counted values. -/
theorem ValuesInRange.withWat (h : ValuesInRange s) {w : Wat} (hgroups : w.groups = s.wat.groups)
    (hnoFlow : w.noFlow = s.wat.noFlow) : ValuesInRange { s with wat := w } :=
  { h with
    channels := { h.channels with }
    groups := hgroups ▸ h.groups
    noFlow := hnoFlow ▸ h.noFlow
    lists := hgroups ▸ h.lists
    idle := idleTimer_le _ }

theorem exec_inRange (c : Instr) (hc : Coherent s) (h : ValuesInRange s) : Completes ValuesInRange (exec c s) := by
  cases c with
  | reset => exact .of_next h.afterReset
  | statusNotice after frame | claimNotice after frame | releaseNotice after frame | reportNotice after frame
  | hold after frame | stop after frame | forceEq after frame | forceWater after frame | clear after frame
  | query after frame =>
    exact completes_frameCommand (after := after) (frame := frame) (by simp [FrameCommand]) fun hf =>
      valuesInRange_hearFrame hf (h.elapse after)
  | sampleSet words =>
    refine completes_expiry h fun d hd => (h.reach d).deliverSampleSet ?_ words
    by_contra hread
    obtain ⟨hscan, -⟩ := h.unread (Bool.not_eq_true _ ▸ hread)
    rw [hscan] at hd
    cases hd
  | scanStart => exact .of_next h.secondExpires
  | hourExpiry =>
    exact .of_next { h with
      channels := { h.channels with }, account := { h.account with hours := Nat.min_le_left _ _ }, idle := idleTimer_le _ }
  | contentionWindowExpiry r =>
    refine completes_expiry h fun d hd => (h.reach d).of_round (frame_windowExpires r _) fun f => f.windowExpires ?_
    exact (hc.sound_machine r).window.mp (by rw [hd]; rfl)
  | backOffExpiry r =>
    exact completes_expiry h fun d _ => by cases r <;> exact { h with channels := { h.channels with }, idle := idleTimer_le _ }
  | chargerWaitExpiry =>
    exact completes_expiry h fun d _ => (h.reach d).of_round (frame_prepareEnds _ _ _) fun f => f.prepareEnds _ _
  | transferWindowExpiry =>
    exact completes_expiry h fun d _ => ValuesInRange.of_round (s := { s.reach (d + transferUs) with rnd.transferFrom := none })
      { h with channels := { h.channels with }, idle := idleTimer_le _ } (frame_transferLate _) Figures.transferLate
  | recoveryCheckExpiry =>
    show Completes _ (execRecoveryCheckExpiry s)
    unfold execRecoveryCheckExpiry
    split
    · exact .of_next ((h.reach _).of_round (frame_enterStuck _) Figures.enterStuck)
    · exact .of_next h
  | currentWaitExpiry =>
    exact completes_expiry h fun d _ => (h.reach d).of_round (frame_commandFloatWithWindow _) Figures.commandFloatWithWindow
  | restPeriodExpiry =>
    refine completes_expiry h fun d _ => { h with channels := { h.channels with }, idle := idleTimer_le _, noFlow := ?_ }
    refine ⟨h.noFlow.1, ?_⟩
    show (if s.rnd.round = .rest then RoundState.float else s.rnd.round) = .watering → _
    split_ifs
    · exact nofun
    · exact h.noFlow.2
  | flowWindowExpiry =>
    refine completes_expiry h fun d hd => (h.reach d).of_round (frame_flowWindowPasses _) fun f => f.flowWindowPasses ?_
    exact hc.wateringTimers (by simp [hd])
  | openPeriodExpiry =>
    exact completes_expiry h fun d _ => (h.reach d).of_round (frame_closePulse _) fun f => { f with }
  | dryLatchExpiry | earlyFlowLimitExpiry => exact completes_expiry h fun d _ => (h.reach d).withWat rfl rfl
  | drainGraceExpiry =>
    exact completes_expiry h fun d _ => ValuesInRange.of_round (s := { s.reach d with wat.drainGrace := none })
      ((h.reach d).withWat rfl rfl) (frame_checkClosedPeriod _) Figures.checkClosedPeriod
  | offTimeExpiry =>
    exact completes_expiry h fun d _ => ValuesInRange.of_round (s := { s.reach d with wat.offTime := none })
      ((h.reach d).withWat rfl rfl) (frame_checkClosedPeriod _) Figures.checkClosedPeriod
  | roundLimitExpiry =>
    exact completes_expiry h fun d _ => (h.reach d).of_round (frame_wateringEnds _ _ _) fun f => f.atRest.wateringEnds _ _
  | stabilityTimerExpiry i => exact completes_expiry h fun d _ => (h.reach d).levelStands i
  | flowTimerExpiry => exact completes_expiry h fun d _ => (h.reach d).flowTimerEnds
  | rawLevelChange after i => exact .of_next ((h.elapse after).withLine i _)
  | flowEdge after => exact .of_next { h with channels := { h.channels with }, idle := idleTimer_le _ }
  | pwmPeriodStart =>
    exact .of_next { h with channels := { h.channels with }, duty := ⟨h.duty.1, h.duty.1⟩, idle := idleTimer_le _ }
  | strapsSettled after straps => exact strapsSettled_inRange h after straps
  | configurationRead record => exact configurationRead_inRange h record
  | selfTest looped => exact selfTest_inRange h looped
  | lineBreak after | framingError after => exact .of_next ((h.elapse after).listening _ _)
  | lineIdle after => exact lineIdle_inRange h after
  | frameDiscarded after => exact frameDiscarded_inRange h after
  | frameAbandoned heard => exact frameAbandoned_inRange h heard
  | dominantCount after => exact dominantCount_inRange h after
  | attemptStart after => exact attemptStart_inRange h after
  | arbitrationLost after => exact arbitrationLost_inRange h after
  | bitError after => exact bitError_inRange h after
  | attemptComplete => exact attemptComplete_inRange h
  | recoveryAttempt | joiningTimerExpiry =>
    exact completes_expiry h fun d _ => { h with channels := { h.channels with }, idle := idleTimer_le _ }
  | statusPeriodExpiry | holdTimerExpiry =>
    exact completes_expiry h fun d _ => .requestStatus { h with channels := { h.channels with }, idle := idleTimer_le _ }

/-- Settles O9: every command keeps the values in range, and the waiting commands play no part in it. -/
theorem valuesStayInRange : Obligations.ValuesStayInRange := fun _ _ hc h ht =>
  step_of_exec h
    (fun c _ _ => exec_inRange c (hc.congr ⟨rfl, rfl⟩ rfl rfl rfl (.inl rfl))
      { h with channels := { h.channels with }, idle := idleTimer_le _ }) ht

end Sys2Proof.Machine
end
